-- ==== Sys2Proof/Word.lean ====
section
/-! DEFINITION. The plain word types of the part (00_scope.md section 0.6). -/

namespace Sys2Proof

/-- One byte of the Control Port. -/
abbrev Byte := BitVec 8

/-- One audio sample, a 16-bit signed integer (00_scope.md 0.6, "Samples"). -/
abbrev Sample := BitVec 16

/-- A value of the time base, or a difference of two, modulo 2^32 (00_scope.md 0.6, "Ticks and the time base"). -/
abbrev Tick := BitVec 32

/-- A 32-bit count: sample stamps, interval numbers, block numbers, notice values. -/
abbrev Count32 := BitVec 32

/-- An air sequence number (00_scope.md 0.6, "Sequence numbers"). -/
abbrev Sequence := BitVec 16

/-- Six bytes of radio address; the first byte is the most significant (DEDUCED, log entry 9). -/
abbrev Address := BitVec 48

/-- Sixteen bytes of link key, challenge or proof; the first byte is the most significant (DEDUCED, log entry 9). -/
abbrev Key := BitVec 128

/-- A public value of the pairing handshake, as a string of bytes (DESIGN CHOICE, log entry 7). -/
abbrev PublicValue := List Byte

/-- An index set: member k is bit k (R173). -/
abbrev IndexSet := BitVec 8

/-- A stream slot, 0..3. -/
abbrev SlotId := Fin 4

/-- A roster entry, 0..7. -/
abbrev EntryId := Fin 8

/-- A voice, 0 or 1. -/
abbrev VoiceId := Fin 2

/-- A sink, 0..4: UP is 0 and Ek is k + 1 (Table 7.1). -/
abbrev SinkId := Fin 5

/-- A notice source, 0..14 (Table 10.1). -/
abbrev SourceId := Fin 15

/-- A notice class, 0..3. -/
abbrev ClassId := Fin 4

end Sys2Proof
end

