-- ==== Sys2Proof/Config.lean ====
section
/-! DEFINITION. What each part fixes for itself and what its key unit delivers: free values, constants with no body, so that no
proof can see what they are (DESIGN CHOICE, log entries 6, 8, 10). -/

namespace Sys2Proof.Config

/-- The part's own radio address, "fixed in the part" (R56). -/
opaque partAddress : Address

/-- The fresh public value the key unit delivers at its n-th draw (R40). -/
opaque freshPublicValue : Nat → PublicValue

/-- The fresh 16-byte challenge the key unit delivers at its n-th draw (R60). -/
opaque freshChallenge : Nat → Key

/-- The link key computed from the part's and the earbud's public values (R42). -/
opaque linkKey : PublicValue → PublicValue → Key

/-- Whether the key unit passes a proof, "a function of them alone": link key, challenge, proof (R62). -/
opaque proofPasses : Key → Key → Key → Bool

/-- The four bytes that STATS_GET carries for a measured step too large for four bytes; the spec states none (DESIGN CHOICE, log
entry 10). -/
opaque oversizeStep : Nat → Count32

end Sys2Proof.Config
end

