-- ==== Sys2Proof/Syntax.lean ====
section
/-! DEFINITION. The commands the part takes: one constructor of `Instr` per row of spec/opcode_table.json. -/

namespace Sys2Proof

/-- The envelope of an air frame that arrived with a good check (R56). -/
structure AirHeader where
  destination : Address
  source : Address
  deriving DecidableEq, Repr

/-- What an earbud declares of itself, before any check: the fields of ROSTER_PUT (R24) and of ASK (R36) as bytes, by the
numbering of R173. An absent set id is a declaration with no set. -/
structure RawDeclared where
  setId : Option Byte
  role : Byte
  microphone : Byte
  rates : Byte
  clockClass : Byte
  deriving DecidableEq, Repr

/-- The fields of an UP frame (R57). -/
structure UpFrame where
  sequence : Sequence
  stamp : Count32
  readyLag : BitVec 24
  noMic : Bool
  downAck : Bool
  samples : Option (List Sample)
  deriving DecidableEq, Repr

/-- The commands. A request carries its tag and its raw body (R171); an air frame its header and fields (R56); an event that a
rule times by the time base carries the ticks that have passed since the present time base (DESIGN CHOICE, log entry 2). -/
inductive Instr where
  /-- R2: the RESET line. -/
  | powerOnReset
  /-- R176. -/
  | hello (tag : Byte) (body : List Byte)
  /-- R176. -/
  | resetSoft (tag : Byte) (body : List Byte)
  /-- R176: the reset that follows the RESET_SOFT reply. -/
  | softResetPerformed
  /-- R4. -/
  | callOpen (tag : Byte) (body : List Byte)
  /-- R8. -/
  | callHold (tag : Byte) (body : List Byte)
  /-- R8. -/
  | callResume (tag : Byte) (body : List Byte)
  /-- R13. -/
  | callClose (tag : Byte) (body : List Byte)
  /-- R18. -/
  | callGet (tag : Byte) (body : List Byte)
  /-- R24. -/
  | rosterPut (tag : Byte) (body : List Byte)
  /-- R26. -/
  | rosterGet (tag : Byte) (body : List Byte)
  /-- R27. -/
  | rosterDrop (tag : Byte) (body : List Byte)
  /-- R35. -/
  | pairStart (tag : Byte) (body : List Byte)
  /-- R40. -/
  | pairPick (tag : Byte) (body : List Byte)
  /-- R44. -/
  | pairConfirm (tag : Byte) (body : List Byte)
  /-- R49. -/
  | pairCancel (tag : Byte) (body : List Byte)
  /-- R60. -/
  | earJoin (tag : Byte) (body : List Byte)
  /-- R67. -/
  | earLeave (tag : Byte) (body : List Byte)
  /-- R96. -/
  | queueSet (tag : Byte) (body : List Byte)
  /-- R122. -/
  | mixSet (tag : Byte) (body : List Byte)
  /-- R124. -/
  | mixCommit (tag : Byte) (body : List Byte)
  /-- R126. -/
  | mixGet (tag : Byte) (body : List Byte)
  /-- R141. -/
  | voiceSet (tag : Byte) (body : List Byte)
  /-- R150. -/
  | watchSet (tag : Byte) (body : List Byte)
  /-- R134. -/
  | sinkSet (tag : Byte) (body : List Byte)
  /-- R98. -/
  | statsGet (tag : Byte) (body : List Byte)
  /-- R162. -/
  | noticeRoute (tag : Byte) (body : List Byte)
  /-- R163. -/
  | noticeMask (tag : Byte) (body : List Byte)
  /-- R166. -/
  | noticeAck (tag : Byte) (body : List Byte)
  /-- R165. -/
  | noticePoll (tag : Byte) (body : List Byte)
  /-- R173: a good frame of a kind outside 0x01..0x1C. -/
  | unknownKindRequest (kind : Byte) (tag : Byte) (body : List Byte)
  /-- R172: a byte on CPRX, `elapsed` ticks from now. -/
  | controlPortByte (elapsed : Tick) (byte : Byte)
  /-- R172: the 20 ms without a byte. -/
  | byteTimeout (elapsed : Tick)
  /-- R174. -/
  | frameToRequest
  /-- R175: `hostReady` is HRDY as it is sampled. -/
  | transmitStart (hostReady : Bool)
  /-- R175. -/
  | transmitDone
  /-- R53. -/
  | airIntervalEnd
  /-- R54: the next slot of the plan begins. -/
  | slotStart
  /-- R36. -/
  | ask (header : AirHeader) (declared : RawDeclared) (quality : Byte)
  /-- R42. -/
  | accept (header : AirHeader) (earValue : PublicValue)
  /-- R44. -/
  | confirm (header : AirHeader)
  /-- R45. -/
  | reject (header : AirHeader)
  /-- R46. -/
  | bound (header : AirHeader)
  /-- R62. -/
  | joinAck (header : AirHeader) (accepts : Bool) (proof : Key)
  /-- R68. -/
  | leaveAck (header : AirHeader)
  /-- R65. -/
  | up (header : AirHeader) (frame : UpFrame)
  /-- R48. -/
  | pairTurnFirstHalfEnd
  /-- R46. -/
  | bindNoAnswer
  /-- R38. -/
  | candidateExpiry
  /-- R39. -/
  | windowEnd
  /-- R41. -/
  | offerTimeout
  /-- R43. -/
  | keyComputationDone
  /-- R45. -/
  | compareTimeout
  /-- R61. -/
  | joinNoAnswer (slot : SlotId)
  /-- R68. -/
  | leaveUnanswered (slot : SlotId)
  /-- R69. -/
  | linkLoss (slot : SlotId)
  /-- R90. -/
  | fillTimeout (slot : SlotId)
  /-- R104. -/
  | driftWindowClose (slot : SlotId)
  /-- R153: a frame sync, with the words on PDIN in the two places of the PCM frame it opens. -/
  | sync (elapsed : Tick) (firstWord : BitVec 16) (secondWord : BitVec 16)
  /-- R156. -/
  | syncLoss (elapsed : Tick)
  /-- R157. -/
  | freeRunningBlockEvent (elapsed : Tick)
  /-- R6. -/
  | lockTimeout (elapsed : Tick)
  deriving DecidableEq, Repr

end Sys2Proof
end

