-- ==== Sys2Proof/Machine/State.lean ====
section
/-! DEFINITION. The state of the part, block by block, as plain data, with its values after reset. -/

namespace Sys2Proof.Machine

open Sys2Proof

/-! ### The call record (R1, R2) -/

/-- The state of the call (Fig. 1.1). -/
inductive CallState where
  | idle | opening | live | held | lost | closing
  deriving DecidableEq, Repr

/-- The call rate (Table 0.1). -/
inductive CallRate where
  | hz8000 | hz16000 | hz32000
  deriving DecidableEq, Repr

/-- Which half of the modem's two-word PCM frame carries the call's audio (Table 1.1). -/
inductive WordPosition where
  | first | second
  deriving DecidableEq, Repr

/-- Which byte of a word comes first on the line (Table 1.1). -/
inductive ByteOrder where
  | normal | swapped
  deriving DecidableEq, Repr

/-- Whether the uplink words are the downlink words of the block before (Table 1.1). -/
inductive Loopback where
  | off | port
  deriving DecidableEq, Repr

/-- The state that relock returns to (Table 1.1). -/
inductive ResumeTo where
  | live | held
  deriving DecidableEq, Repr

/-- Why the last call ended (Table 1.1). -/
inductive CloseReason where
  | none | byRequest | noSync | syncLost
  deriving DecidableEq, Repr

/-- The call record, Table 1.1. -/
structure CallRecord where
  state : CallState
  rate : CallRate
  wordPosition : WordPosition
  byteOrder : ByteOrder
  loopback : Loopback
  resumeTo : ResumeTo
  closeReason : CloseReason
  blockNumber : Count32
  freeRunCount : Nat
  openTime : Tick
  deriving DecidableEq, Repr

/-- The call record after reset, Table 1.2. -/
def CallRecord.reset : CallRecord where
  state := .idle
  rate := .hz8000
  wordPosition := .first
  byteOrder := .normal
  loopback := .off
  resumeTo := .live
  closeReason := .none
  blockNumber := 0
  freeRunCount := 0
  openTime := 0

/-! ### The roster (R19) -/

/-- An earbud's place: MONO with no set id, or LEFT or RIGHT with one. Set id and role agree by construction (R22). -/
inductive Place where
  | left (setId : Byte) | right (setId : Byte) | mono
  deriving DecidableEq, Repr

/-- A set of call rates that holds at least one rate (R22). -/
inductive RateSet where
  | only8 | only16 | only32 | both8and16 | both8and32 | both16and32 | all
  deriving DecidableEq, Repr

/-- The accuracy of an earbud's clock, as it declares it (Table 2.3). -/
inductive ClockClass where
  | a | b | c
  deriving DecidableEq, Repr

/-- What an earbud declares: the contents of a roster entry but for the link key (Table 2.1), well formed by their types. -/
structure Declared where
  address : Address
  place : Place
  microphone : Bool
  rates : RateSet
  clockClass : ClockClass
  deriving DecidableEq, Repr

/-- The contents of a roster entry (Table 2.1). -/
structure Contents where
  declared : Declared
  linkKey : Key
  deriving DecidableEq, Repr

/-- A roster entry. It has contents in BONDED and IN_CALL and in no other state (R19). -/
inductive RosterEntry where
  | free | reserved | bonded (contents : Contents) | inCall (contents : Contents)
  deriving DecidableEq, Repr

/-! ### The pairing context and the key unit (R33, R42) -/

/-- One earbud heard asking to pair (R36). -/
structure Candidate where
  declared : Declared
  quality : Byte
  lastHeard : Count32
  deriving DecidableEq, Repr

/-- The state of the pairing context (Fig. 3.1). -/
inductive PairState where
  | idle | listen | offered | keying | compare | binding
  deriving DecidableEq, Repr

/-- Why a pairing failed (Table 3.3). -/
inductive FailReason where
  | noAnswer | windowEnd | rejectedByHost | rejectedByEar | timeout | cancelled | inCall | conflict
  deriving DecidableEq, Repr

/-- The pairing context, Table 3.1. -/
structure PairContext where
  state : PairState
  reservedEntry : Option EntryId
  window : Nat
  windowCount : Nat
  windowEnded : Bool
  candidates : List Candidate
  partner : Option Candidate
  attempt : Nat
  turnsWaited : Nat
  partValue : Option PublicValue
  earValue : Option PublicValue
  linkKey : Option Key
  hostConfirmed : Bool
  earConfirmed : Bool
  compareCount : Nat
  bindCount : Nat
  endPending : Option FailReason
  deriving DecidableEq, Repr

/-- The pairing context after reset, Table 3.1. -/
def PairContext.reset : PairContext where
  state := .idle
  reservedEntry := none
  window := 1
  windowCount := 0
  windowEnded := false
  candidates := []
  partner := none
  attempt := 1
  turnsWaited := 0
  partValue := none
  earValue := none
  linkKey := none
  hostConfirmed := false
  earConfirmed := false
  compareCount := 0
  bindCount := 0
  endPending := none

/-- A key computation in flight: its two public values, the intervals that have ended since it began, and whether its handshake
has given it up (R42, R45). -/
structure KeyComputation where
  partValue : PublicValue
  earValue : PublicValue
  intervals : Nat
  discarded : Bool
  deriving DecidableEq, Repr

/-- The key unit: the computation it runs and the one that waits for a discarded one to complete (R42). -/
structure KeyUnit where
  running : Option KeyComputation
  waiting : Option (PublicValue × PublicValue)
  deriving DecidableEq, Repr

/-- The key unit left idle (R33). -/
def KeyUnit.reset : KeyUnit where
  running := none
  waiting := none

/-! ### The Air Scheduler (R53 to R76) -/

/-- The state of a stream slot (Fig. 4.1). -/
inductive SlotState where
  | free | joining | streaming | leaving
  deriving DecidableEq, Repr

/-- What a slot's downlink slot has carried in the present interval for the join or the leave in progress, which the end of the
interval counts (R61, R68; DEDUCED, log entry 25). -/
inductive Carried where
  | nothing | joinReq | leave
  deriving DecidableEq, Repr

/-- A call block of samples with its number. -/
structure Block where
  number : Count32
  samples : List Sample
  deriving DecidableEq, Repr

/-- A stream slot, Table 4.3, and what its downlink slot carried in this interval. -/
structure StreamSlot where
  state : SlotState
  rosterIndex : Option EntryId
  challenge : Option Key
  intervalCount : Nat
  heard : Bool
  supervision : Nat
  lastAccepted : Option Sequence
  downSequence : Sequence
  lastSent : Option Block
  retryCandidate : Bool
  carried : Carried
  deriving DecidableEq, Repr

/-- A stream slot after reset and whenever it becomes FREE, Table 4.3. -/
def StreamSlot.reset : StreamSlot where
  state := .free
  rosterIndex := none
  challenge := none
  intervalCount := 0
  heard := false
  supervision := 0
  lastAccepted := none
  downSequence := 0
  lastSent := none
  retryCandidate := false
  carried := .nothing

/-- What the slot in progress is used for, by the states at its start (Table 4.1). -/
inductive SlotUse where
  /-- nothing is sent or listened for -/
  | idle
  /-- a downlink slot in which the part sends -/
  | downlink (slot : SlotId)
  /-- the uplink slot of a stream slot that stood in `began` at its start -/
  | uplink (slot : SlotId) (began : SlotState)
  /-- a spare slot granted to a retry -/
  | spare (slot : SlotId)
  /-- a pairing turn that began with the context in `began`, carrying an ABANDON when `ending` -/
  | turn (began : PairState) (ending : Bool)
  deriving DecidableEq, Repr

/-- The fields of the frames the part sends (Table 4.2, R57). -/
inductive AirPayload where
  | beacon (partAddress : Address) (openToAsk : Bool)
  | offer (partValue : PublicValue)
  | bindFrame
  | abandon
  | joinReq (rate : CallRate) (slot : SlotId) (challenge : Key)
  | leave
  | down (sequence : Sequence) (block : BitVec 16) (repeated : Bool) (ack : Option Sequence) (samples : List Sample)
  | poll (slot : SlotId)
  deriving DecidableEq, Repr

/-- An air frame the part sends (R56). -/
structure AirFrame where
  destination : Address
  source : Address
  payload : AirPayload
  deriving DecidableEq, Repr

/-- What the Air Scheduler keeps beside the stream slots and their stores: the time base, the interval counter, the slot in
progress with its anchor and use, the arbiter's field, and the frame sent in the slot in progress. -/
structure AirState where
  timeBase : Tick
  interval : Count32
  slot : Option (Fin 10)
  anchor : Tick
  use : SlotUse
  lastGranted : SlotId
  sent : Option AirFrame
  deriving DecidableEq, Repr

/-- The Air Scheduler after reset (R53, R71, R76; DESIGN CHOICE, log entry 26). -/
def AirState.reset : AirState where
  timeBase := 0
  interval := 0
  slot := none
  anchor := 0
  use := .idle
  lastGranted := 3
  sent := none

/-! ### The receive queues (R78, R79, R97, R99) -/

/-- The state of a receive queue (Fig. 5.2). -/
inductive QueueState where
  | stopped | filling | playing | starved
  deriving DecidableEq, Repr

/-- A queue entry, Table 5.2. -/
structure QueueEntry where
  sequence : Sequence
  stamp : Count32
  anchor : Tick
  readyLag : BitVec 24
  retried : Bool
  noMic : Bool
  samples : Option (List Sample)
  deriving DecidableEq, Repr

/-- The fifteen counts of Table 5.3, in its order. -/
structure Stats where
  acceptedArrivals : Nat
  duplicates : Nat
  lates : Nat
  overruns : Nat
  flushed : Nat
  consumed : Nat
  retriedArrivals : Nat
  retryDenials : Nat
  gapFilled : Nat
  starvedBlocks : Nat
  resyncs : Nat
  discontinuities : Nat
  downMisses : Nat
  windowsAccepted : Nat
  windowsRejected : Nat
  deriving DecidableEq, Repr

/-- Every count at 0 (R80, R97). -/
def Stats.reset : Stats where
  acceptedArrivals := 0
  duplicates := 0
  lates := 0
  overruns := 0
  flushed := 0
  consumed := 0
  retriedArrivals := 0
  retryDenials := 0
  gapFilled := 0
  starvedBlocks := 0
  resyncs := 0
  discontinuities := 0
  downMisses := 0
  windowsAccepted := 0
  windowsRejected := 0

/-- A block outcome (R99). -/
inductive BlockOutcome where
  | good | concealed
  deriving DecidableEq, Repr

/-- A receive queue, Table 5.1. -/
structure RxQueue where
  state : QueueState
  entries : List QueueEntry
  startLevel : Nat
  setPoint : Nat
  quiet : Nat
  arrival : Bool
  stats : Stats
  quality : List BlockOutcome
  deriving DecidableEq, Repr

/-- A receive queue after reset, Table 5.1. -/
def RxQueue.reset : RxQueue where
  state := .stopped
  entries := []
  startLevel := 3
  setPoint := 3
  quiet := 0
  arrival := false
  stats := Stats.reset
  quality := List.replicate 16 .good

/-! ### The drift tracker and rate converter (R101) -/

/-- The frame the read position is in, or the one chosen to follow it. A real current frame is the head of the queue; a real
follower is the oldest entry not yet entered (R109, R110). -/
inductive InFrame where
  | none | real | fill (samples : List Sample)
  deriving DecidableEq, Repr

/-- Whether the claimed edge binds arrivals and moves (R112). -/
inductive EdgeState where
  | notInForce | moving | frozen
  deriving DecidableEq, Repr

/-- A measurement point (E, S) (R102). -/
structure Point where
  time : Tick
  stamp : Count32
  deriving DecidableEq, Repr

/-- The converter record of one stream, Table 6.1. -/
structure Converter where
  classLimit : Nat
  baseStep : Nat
  appliedStep : Nat
  windowOpen : Bool
  firstPoint : Option Point
  lastPoint : Option Point
  pointCount : Nat
  openingInterval : Count32
  lastMeasured : Nat
  current : InFrame
  index : Nat
  fraction : Nat
  follower : InFrame
  fillPending : Nat
  fillSource : Option (List Sample)
  claimedEdge : Count32
  edgeState : EdgeState
  freshStartPending : Bool
  lastOutput : List Sample
  concealmentRun : Nat
  deriving DecidableEq, Repr

/-- The starting state of a converter record, Table 6.1: a class limit, and `n` zeros for the last output block (DEDUCED, log
entry 22). -/
def Converter.starting (classLimit n : Nat) : Converter where
  classLimit := classLimit
  baseStep := 16777216
  appliedStep := 16777216
  windowOpen := false
  firstPoint := none
  lastPoint := none
  pointCount := 0
  openingInterval := 0
  lastMeasured := 0
  current := .none
  index := 0
  fraction := 0
  follower := .none
  fillPending := 0
  fillSource := none
  claimedEdge := 0
  edgeState := .notInForce
  freshStartPending := false
  lastOutput := List.replicate n 0
  concealmentRun := 0

/-- A converter record after reset: the class limit of class A and N zeros at 8,000 Hz (Table 6.1, Table 1.2). -/
def Converter.reset : Converter := Converter.starting 1174 80

/-! ### The Mix Matrix (R119, R120, R130) -/

/-- The three gain cells of UP (Table 7.1). -/
structure UpRow where
  v0 : Nat
  v1 : Nat
  down : Nat
  deriving DecidableEq, Repr

/-- The four gain cells of an earbud sink (Table 7.1). -/
structure EarRow where
  v0 : Nat
  v1 : Nat
  down : Nat
  own : Nat
  deriving DecidableEq, Repr

/-- A bank: nineteen gains and five mutes (R120). -/
structure Bank where
  up : UpRow
  ear : Vector EarRow 4
  mutes : Vector Bool 5
  deriving DecidableEq, Repr

/-- The defaults of Table 7.1 with every mute off. -/
def Bank.reset : Bank where
  up := ⟨4096, 4096, 0⟩
  ear := Vector.replicate 4 ⟨0, 0, 4096, 512⟩
  mutes := Vector.replicate 5 false

/-- The Mix Matrix: its banks, its commit flag, and per sink the clamp count and the clamp report setting. -/
structure MixState where
  active : Bank
  shadow : Bank
  commitPending : Bool
  clampCount : Vector Nat 5
  clampReport : Vector Bool 5
  deriving DecidableEq, Repr

/-- The Mix Matrix after reset (R120, R130). -/
def MixState.reset : MixState where
  active := Bank.reset
  shadow := Bank.reset
  commitPending := false
  clampCount := Vector.replicate 5 0
  clampReport := #v[true, false, false, false, false]

/-! ### Voices and level watches (R137, R146) -/

/-- The set a voice carries (Table 8.1). -/
inductive VoiceSet where
  | mono | numbered (setId : Byte)
  deriving DecidableEq, Repr

/-- How a voice is formed (R142). -/
inductive VoiceMode where
  | both | best | left | right
  deriving DecidableEq, Repr

/-- A voice record, Table 8.1. The voice is BOUND when it has a set, FREE when it has none. -/
structure Voice where
  boundTo : Option VoiceSet
  left : Option SlotId
  right : Option SlotId
  mono : Option SlotId
  mode : VoiceMode
  hysteresis : Nat
  holdTime : Nat
  winner : Option SlotId
  sinceSwitch : Nat
  deriving DecidableEq, Repr

/-- A voice record after reset, Table 8.1. -/
def Voice.reset : Voice where
  boundTo := none
  left := none
  right := none
  mono := none
  mode := .both
  hysteresis := 3
  holdTime := 8
  winner := none
  sinceSwitch := 0

/-- What a watch looks for (Table 8.2). -/
inductive WatchKind where
  | off | peakOver | quiet
  deriving DecidableEq, Repr

/-- A watch record, Table 8.2. -/
structure Watch where
  kind : WatchKind
  level : Nat
  count : Nat
  run : Nat
  fired : Bool
  deriving DecidableEq, Repr

/-- A watch record after reset, Table 8.2. -/
def Watch.reset : Watch where
  kind := .off
  level := 0
  count := 1
  run := 0
  fired := false

/-! ### The Call Port (R151) -/

/-- The state of the Call Port (Fig. 9.1). -/
inductive PortState where
  | stopped | hunting | synced | freeRunning
  deriving DecidableEq, Repr

/-- What PDOUT carried in the two word places of the PCM frame that the last sync opened; absent is undriven (R152). -/
structure LineWords where
  first : Option (BitVec 16)
  second : Option (BitVec 16)
  deriving DecidableEq, Repr

/-- Both word places undriven. -/
def LineWords.undriven : LineWords := ⟨none, none⟩

/-- The port record, Table 9.1, and the line it drives. -/
structure PortRecord where
  state : PortState
  reference : Option Tick
  goodCount : Nat
  wordIndex : Nat
  lastBlockEventTime : Tick
  freeRunDue : Option Tick
  downGathering : List Sample
  downCompleted : Option (List Sample)
  upSending : Option (List Sample)
  driven : LineWords
  deriving DecidableEq, Repr

/-- The port record after reset, Table 9.1 (DESIGN CHOICE, log entry 26). -/
def PortRecord.reset : PortRecord where
  state := .stopped
  reference := none
  goodCount := 0
  wordIndex := 0
  lastBlockEventTime := 0
  freeRunDue := none
  downGathering := []
  downCompleted := none
  upSending := none
  driven := LineWords.undriven

/-! ### The Notice Controller (R160, R161, R164) -/

/-- A source record (R160). -/
structure SourceRecord where
  asserted : Bool
  occurrences : Nat
  indexSet : IndexSet
  latestCode : Byte
  latestValue : Count32
  deriving DecidableEq, Repr

/-- A source record after reset (R160). -/
def SourceRecord.reset : SourceRecord where
  asserted := false
  occurrences := 0
  indexSet := 0
  latestCode := 0
  latestValue := 0

/-- The two settings of a class (R161). -/
structure ClassSettings where
  reportEnabled : Bool
  wakeEnabled : Bool
  deriving DecidableEq, Repr

/-- A source that an outstanding report listed, with the index set it carried (R164). -/
structure Listed where
  source : SourceId
  indexSet : IndexSet
  deriving DecidableEq, Repr

/-- The Notice Controller: the source records, the routing table, the class settings, the outstanding reports, the line ATN. -/
structure Notices where
  records : Vector SourceRecord 15
  route : Vector ClassId 15
  classes : Vector ClassSettings 4
  outstanding : Vector (Option (List Listed)) 4
  atn : Bool
  deriving DecidableEq, Repr

/-- The Notice Controller after reset (R160, R161, R168, R169; the classes of Table 10.1). -/
def Notices.reset : Notices where
  records := Vector.replicate 15 SourceRecord.reset
  route := #v[1, 0, 1, 1, 0, 2, 2, 3, 3, 2, 1, 3, 1, 3, 3]
  classes := #v[⟨true, true⟩, ⟨true, true⟩, ⟨true, false⟩, ⟨true, false⟩]
  outstanding := Vector.replicate 4 none
  atn := false

/-! ### The Control Port (R170 to R176) -/

/-- A message: the kind, tag and body of a frame (Table 11.1). -/
structure Message where
  kind : Byte
  tag : Byte
  body : List Byte
  deriving DecidableEq, Repr

/-- What the transmitter is sending (R175). -/
inductive SendingKind where
  | start | reply | report
  deriving DecidableEq, Repr

/-- The frame in flight on CPTX: what it is and its bytes on the line. -/
structure Sending where
  what : SendingKind
  bytes : List Byte
  deriving DecidableEq, Repr

/-- How far a RESET_SOFT has come (R176): none taken, its reply not yet sent, or the reset due. -/
inductive SoftReset where
  | notAsked | replyOwed | due
  deriving DecidableEq, Repr

/-- The Control Port: the input buffer as its good frames waiting whole and the bytes of the frame being received (none while
hunting), the line CRDY, the fault count, the two queues, the transmitter, and the resets in progress. -/
structure ControlPort where
  goodFrames : List (List Byte)
  openFrame : List Byte
  lastByteTime : Tick
  ready : Bool
  faultCount : Nat
  requests : List Message
  replies : List Message
  sending : Option Sending
  startOwed : Bool
  softReset : SoftReset
  deriving DecidableEq, Repr

/-- The Control Port after reset (R170, R172; DESIGN CHOICE, log entry 26). -/
def ControlPort.reset : ControlPort where
  goodFrames := []
  openFrame := []
  lastByteTime := 0
  ready := true
  faultCount := 0
  requests := []
  replies := []
  sending := none
  startOwed := true
  softReset := .notAsked

/-! ### The whole part -/

/-- The part: its blocks, the model's counter of fresh values drawn from the key unit (DESIGN CHOICE, log entry 6), and the
queue of commands that wait, first in, first out (DESIGN CHOICE, log entry 1). -/
structure State where
  call : CallRecord
  roster : Vector RosterEntry 8
  pair : PairContext
  keyUnit : KeyUnit
  air : AirState
  slots : Vector StreamSlot 4
  stores : Vector (List Block) 4
  queues : Vector RxQueue 4
  convs : Vector Converter 4
  mix : MixState
  voices : Vector Voice 2
  watches : Vector Watch 5
  port : PortRecord
  notices : Notices
  control : ControlPort
  draws : Nat
  pending : List Instr
  deriving DecidableEq, Repr

/-- The part right after reset, with an empty queue of commands. -/
def State.reset : State where
  call := CallRecord.reset
  roster := Vector.replicate 8 .free
  pair := PairContext.reset
  keyUnit := KeyUnit.reset
  air := AirState.reset
  slots := Vector.replicate 4 StreamSlot.reset
  stores := Vector.replicate 4 []
  queues := Vector.replicate 4 RxQueue.reset
  convs := Vector.replicate 4 Converter.reset
  mix := MixState.reset
  voices := Vector.replicate 2 Voice.reset
  watches := Vector.replicate 5 Watch.reset
  port := PortRecord.reset
  notices := Notices.reset
  control := ControlPort.reset
  draws := 0
  pending := []

/-- A fault would stop the part. The spec gives the part none: a wrong request is answered with a status (R173), a wrong frame is
ignored or counted (R56, R172). So no command raises one, and the type has no constructor; this is safe. -/
inductive Fault where
  deriving DecidableEq, Repr

/-- A refusal by the model. -/
inductive Refusal where
  /-- Answered only by an arm of `exec` whose command has no meaning yet; no meaning answers with it, and no arm does now. Safe:
  the machine stops. -/
  | notModelled (mnemonic : String)
  deriving DecidableEq, Repr

end Sys2Proof.Machine
end

