-- ==== Sys2Proof/Decode.lean ====
section
/-! DEFINITION. What spells a command. The opcode table gives no row any bits, so no word spells one. A frame of the Control Port
spells a request (R171, R173): its layout, and the command of its kind, are here. -/

namespace Sys2Proof

/-- The command a word spells by the bits of spec/opcode_table.json. No row of the table has bits. -/
def decodeTableWord (_nbits _w : Nat) : Option Instr := none

namespace Machine

open Sys2Proof

/-- The Sync byte (Table 11.1). -/
def syncByte : Byte := 0xC3

/-- The low and the high byte of a 16-bit number, least significant first (R173). -/
def bytes2 (n : Nat) : List Byte := [BitVec.ofNat 8 n, BitVec.ofNat 8 (n / 256)]

/-- The four bytes of a 32-bit number, least significant first (R173). -/
def bytes4 (n : Nat) : List Byte :=
  [BitVec.ofNat 8 n, BitVec.ofNat 8 (n / 256), BitVec.ofNat 8 (n / 65536), BitVec.ofNat 8 (n / 16777216)]

/-- The number two bytes hold, least significant first (R173). -/
def number2 (low high : Byte) : Nat := low.toNat + 256 * high.toNat

/-- The byte sum modulo 256 (Table 11.1, Check). -/
def byteSum (bytes : List Byte) : Byte := bytes.foldl (· + ·) 0

/-- The bytes the check covers, but for the Check byte: Length, Kind, Tag and Body (R171). -/
def Message.covered (m : Message) : List Byte := bytes2 (m.body.length + 2) ++ m.kind :: m.tag :: m.body

/-- A frame on the line: Sync, Length, Kind, Tag, Body, and the Check that makes the byte sum 0 (Table 11.1). -/
def Message.frame (m : Message) : List Byte := syncByte :: (m.covered ++ [-(byteSum m.covered)])

/-- The Length field of the bytes of a frame stored so far, from the Sync byte on, once both its bytes are there (R172). -/
def frameLength (stored : List Byte) : Option Nat :=
  match stored with
  | _ :: low :: high :: _ => some (number2 low high)
  | _ => none

/-- The message of a good frame's bytes: the kind and tag after the Length, the body, the Check left off (Table 11.1). -/
def messageOfFrame (bytes : List Byte) : Option Message :=
  match bytes with
  | _ :: _ :: _ :: kind :: tag :: rest => some ⟨kind, tag, rest.dropLast⟩
  | _ => none

/-- Whether a kind is a request kind, 0x01..0x1C (Table 11.1). -/
def isRequestKind (kind : Byte) : Bool := 1 ≤ kind.toNat && kind.toNat ≤ 28

/-- The command that takes a request, by its kind (Table 11.2). -/
def instrOfMessage (m : Message) : Instr :=
  match m.kind.toNat with
  | 0x01 => .hello m.tag m.body
  | 0x02 => .resetSoft m.tag m.body
  | 0x03 => .callOpen m.tag m.body
  | 0x04 => .callHold m.tag m.body
  | 0x05 => .callResume m.tag m.body
  | 0x06 => .callClose m.tag m.body
  | 0x07 => .rosterPut m.tag m.body
  | 0x08 => .rosterGet m.tag m.body
  | 0x09 => .rosterDrop m.tag m.body
  | 0x0A => .pairStart m.tag m.body
  | 0x0B => .pairPick m.tag m.body
  | 0x0C => .pairConfirm m.tag m.body
  | 0x0D => .pairCancel m.tag m.body
  | 0x0E => .earJoin m.tag m.body
  | 0x0F => .earLeave m.tag m.body
  | 0x10 => .queueSet m.tag m.body
  | 0x11 => .mixSet m.tag m.body
  | 0x12 => .mixCommit m.tag m.body
  | 0x13 => .mixGet m.tag m.body
  | 0x14 => .voiceSet m.tag m.body
  | 0x15 => .watchSet m.tag m.body
  | 0x16 => .sinkSet m.tag m.body
  | 0x17 => .statsGet m.tag m.body
  | 0x18 => .noticeRoute m.tag m.body
  | 0x19 => .noticeMask m.tag m.body
  | 0x1A => .noticeAck m.tag m.body
  | 0x1B => .callGet m.tag m.body
  | 0x1C => .noticePoll m.tag m.body
  | _ => .unknownKindRequest m.kind m.tag m.body

/-- The request a command takes, for the commands that take one (Table 11.2). -/
def messageOfInstr (c : Instr) : Option Message :=
  match c with
  | .hello tag body => some ⟨0x01, tag, body⟩
  | .resetSoft tag body => some ⟨0x02, tag, body⟩
  | .callOpen tag body => some ⟨0x03, tag, body⟩
  | .callHold tag body => some ⟨0x04, tag, body⟩
  | .callResume tag body => some ⟨0x05, tag, body⟩
  | .callClose tag body => some ⟨0x06, tag, body⟩
  | .rosterPut tag body => some ⟨0x07, tag, body⟩
  | .rosterGet tag body => some ⟨0x08, tag, body⟩
  | .rosterDrop tag body => some ⟨0x09, tag, body⟩
  | .pairStart tag body => some ⟨0x0A, tag, body⟩
  | .pairPick tag body => some ⟨0x0B, tag, body⟩
  | .pairConfirm tag body => some ⟨0x0C, tag, body⟩
  | .pairCancel tag body => some ⟨0x0D, tag, body⟩
  | .earJoin tag body => some ⟨0x0E, tag, body⟩
  | .earLeave tag body => some ⟨0x0F, tag, body⟩
  | .queueSet tag body => some ⟨0x10, tag, body⟩
  | .mixSet tag body => some ⟨0x11, tag, body⟩
  | .mixCommit tag body => some ⟨0x12, tag, body⟩
  | .mixGet tag body => some ⟨0x13, tag, body⟩
  | .voiceSet tag body => some ⟨0x14, tag, body⟩
  | .watchSet tag body => some ⟨0x15, tag, body⟩
  | .sinkSet tag body => some ⟨0x16, tag, body⟩
  | .statsGet tag body => some ⟨0x17, tag, body⟩
  | .noticeRoute tag body => some ⟨0x18, tag, body⟩
  | .noticeMask tag body => some ⟨0x19, tag, body⟩
  | .noticeAck tag body => some ⟨0x1A, tag, body⟩
  | .callGet tag body => some ⟨0x1B, tag, body⟩
  | .noticePoll tag body => some ⟨0x1C, tag, body⟩
  | .unknownKindRequest kind tag body => some ⟨kind, tag, body⟩
  | .powerOnReset => none
  | .softResetPerformed => none
  | .controlPortByte _ _ => none
  | .byteTimeout _ => none
  | .frameToRequest => none
  | .transmitStart _ => none
  | .transmitDone => none
  | .airIntervalEnd => none
  | .slotStart => none
  | .ask _ _ _ => none
  | .accept _ _ => none
  | .confirm _ => none
  | .reject _ => none
  | .bound _ => none
  | .joinAck _ _ _ => none
  | .leaveAck _ => none
  | .up _ _ => none
  | .pairTurnFirstHalfEnd => none
  | .bindNoAnswer => none
  | .candidateExpiry => none
  | .windowEnd => none
  | .offerTimeout => none
  | .keyComputationDone => none
  | .compareTimeout => none
  | .joinNoAnswer _ => none
  | .leaveUnanswered _ => none
  | .linkLoss _ => none
  | .fillTimeout _ => none
  | .driftWindowClose _ => none
  | .sync _ _ _ => none
  | .syncLoss _ => none
  | .freeRunningBlockEvent _ => none
  | .lockTimeout _ => none

end Machine

end Sys2Proof
end

