-- ==== Sys2Proof/Machine/Flags.lean ====
section
/-! DEFINITION. The two lines the part computes from its state: the attention line ATN (R168) and the flow line CRDY (R170). -/

namespace Sys2Proof.Machine

open Sys2Proof

/-- The level of ATN: asserted while at least one asserted source belongs to a class that is report enabled or wake enabled
(R168). -/
def attentionLevel (n : Notices) : Bool :=
  (List.finRange 15).any fun src =>
    n.records[src].asserted && (n.classes[n.route[src]].reportEnabled || n.classes[n.route[src]].wakeEnabled)

/-- Settles the attention line anew (R168). -/
def settleAttention (n : Notices) : Notices := { n with atn := attentionLevel n }

/-- The bytes the input buffer holds: those of the good frames waiting and those of the frame being received (R170). -/
def bufferedBytes (c : ControlPort) : Nat := (c.goodFrames.map List.length).sum + c.openFrame.length

/-- CRDY follows the buffer: inactive at 768 bytes or more, active at 256 or fewer, and as it was between the two (R170). -/
def settleReady (c : ControlPort) : ControlPort :=
  { c with
    ready := if 768 ≤ bufferedBytes c then false else if bufferedBytes c ≤ 256 then true else c.ready }

end Sys2Proof.Machine
end

