-- ==== Sys2Proof/Machine/Ops.lean ====
section
/-! DEFINITION. The named operations that the meanings share: the figures of the call rates, rounding and saturation, the time base,
occurrences, the taking of a request, and the key unit's draws. -/

namespace Sys2Proof.Machine

open Sys2Proof

/-! ### Figures and arithmetic (00_scope.md 0.6) -/

/-- N, the samples of one call block (Table 0.1). -/
def CallRate.samples (r : CallRate) : Nat :=
  match r with
  | .hz8000 => 80
  | .hz16000 => 160
  | .hz32000 => 320

/-- P, the ticks of one sample period (Table 0.1). -/
def CallRate.period (r : CallRate) : Nat :=
  match r with
  | .hz8000 => 500
  | .hz16000 => 250
  | .hz32000 => 125

/-- Adds 1 to a count that saturates at `limit`. -/
def saturatingSucc (limit n : Nat) : Nat := if n < limit then n + 1 else n

/-- The largest value of a count of four bytes. -/
def max32 : Nat := 4294967295

/-- Adds 1 to a count of 0..2^32 − 1, which saturates (R97). -/
def bump (n : Nat) : Nat := saturatingSucc max32 n

/-- Adds `k` to a count of 0..2^32 − 1, which saturates. -/
def bumpBy (k n : Nat) : Nat := min max32 (n + k)

/-- Division by a positive divisor with round half up: half the divisor is added and the floor taken. -/
def roundHalfUp (a : Int) (d : Nat) : Int := (2 * a + d) / (2 * d)

/-- Clamps a number to a range. -/
def clampNat (low high n : Nat) : Nat := max low (min high n)

/-- Clamps an integer to a range. -/
def clampInt (low high a : Int) : Int := max low (min high a)

/-- A sample divided by a positive divisor, rounded toward zero (R112, R113). -/
def Sample.scaledDown (d : Int) (x : Sample) : Sample := BitVec.ofInt 16 (x.toInt.tdiv d)

/-- Whether the sequence number `a` is newer than `b` (00_scope.md 0.6, "Sequence numbers"). -/
def newer (a b : Sequence) : Bool := 1 ≤ (a - b).toNat && (a - b).toNat ≤ 32767

/-! ### The time base (R53, R54) -/

/-- Ticks from the time `t` to the present time base, modulo 2^32. -/
def ticksSince (t : Tick) (s : State) : Nat := (s.air.timeBase - t).toNat

/-- Time passes: the time base advances by `elapsed` ticks and wraps (R53; DESIGN CHOICE, log entry 2). -/
def passTime (elapsed : Tick) (s : State) : State :=
  { s with air := { s.air with timeBase := s.air.timeBase + elapsed } }

/-- Whether the time `t` has been reached: it lies no further than half the range of the time base behind the present. -/
def timeReached (t : Tick) (a : AirState) : Bool := (a.timeBase - t).toNat < 2147483648

/-- Time passes until the time base reads `t`, unless that time has been reached already (DESIGN CHOICE, log entry 2). -/
def passUntil (t : Tick) (a : AirState) : AirState :=
  if timeReached t a then a else { a with timeBase := t }

/-- The start of interval `i` on the time base: (40,000 × i) mod 2^32 (R53). -/
def intervalStart (i : Count32) : Tick := 40000 * i

/-- The start of slot `n` of interval `i` (R54). -/
def slotStartTime (i : Count32) (n : Nat) : Tick := intervalStart i + BitVec.ofNat 32 (4000 * n)

/-! ### Occurrences (R160) -/

/-- The notice sources of Table 10.1. -/
def Source.frameFault : SourceId := 0
@[inherit_doc Source.frameFault] def Source.callState : SourceId := 1
@[inherit_doc Source.frameFault] def Source.pairEvent : SourceId := 2
@[inherit_doc Source.frameFault] def Source.joinResult : SourceId := 3
@[inherit_doc Source.frameFault] def Source.linkLoss : SourceId := 4
@[inherit_doc Source.frameFault] def Source.queueOverrun : SourceId := 5
@[inherit_doc Source.frameFault] def Source.queueStarved : SourceId := 6
@[inherit_doc Source.frameFault] def Source.arrivalDiscard : SourceId := 7
@[inherit_doc Source.frameFault] def Source.driftHold : SourceId := 8
@[inherit_doc Source.frameFault] def Source.sinkClamp : SourceId := 9
@[inherit_doc Source.frameFault] def Source.watch : SourceId := 10
@[inherit_doc Source.frameFault] def Source.voiceSwitch : SourceId := 11
@[inherit_doc Source.frameFault] def Source.commitDone : SourceId := 12
@[inherit_doc Source.frameFault] def Source.downSlip : SourceId := 13
@[inherit_doc Source.frameFault] def Source.retryDenied : SourceId := 14

/-- The index set with member `k` (R173). -/
def IndexSet.with (k : Nat) (set : IndexSet) : IndexSet := set ||| BitVec.ofNat 8 (2 ^ k)

/-- What an occurrence does to its source's record (R160). -/
def SourceRecord.occur (index : Option Nat) (code : Byte) (value : Count32) (r : SourceRecord) : SourceRecord where
  asserted := true
  occurrences := saturatingSucc 255 r.occurrences
  indexSet := match index with
    | some k => IndexSet.with k r.indexSet
    | none => r.indexSet
  latestCode := code
  latestValue := value

/-- An occurrence on a source: its record takes it, and the attention line is settled anew (R160, R168). -/
def Notices.occur (src : SourceId) (index : Option Nat) (code : Byte) (value : Count32) (n : Notices) : Notices :=
  settleAttention { n with records := n.records.set src (n.records[src].occur index code value) }

/-- An occurrence on a source with no index range. -/
def raise (src : SourceId) (code : Byte) (value : Count32) (s : State) : State :=
  { s with notices := s.notices.occur src none code value }

/-- An occurrence whose value is an index, which it adds to the source's index set. -/
def raiseAt (src : SourceId) (code : Byte) (index : Nat) (s : State) : State :=
  { s with notices := s.notices.occur src (some index) code (BitVec.ofNat 32 index) }

/-! ### Updates of one part of the state -/

/-- Replaces the record of stream slot `k`. -/
def State.setSlot (k : SlotId) (x : StreamSlot) (s : State) : State := { s with slots := s.slots.set k x }

/-- Replaces the downlink store of stream slot `k`. -/
def State.setStore (k : SlotId) (x : List Block) (s : State) : State := { s with stores := s.stores.set k x }

/-- Replaces the receive queue `k`. -/
def State.setQueue (k : SlotId) (x : RxQueue) (s : State) : State := { s with queues := s.queues.set k x }

/-- Replaces the converter record `k`. -/
def State.setConv (k : SlotId) (x : Converter) (s : State) : State := { s with convs := s.convs.set k x }

/-- Replaces the roster entry `i`. -/
def State.setEntry (i : EntryId) (x : RosterEntry) (s : State) : State := { s with roster := s.roster.set i x }

/-- Replaces the voice `v`. -/
def State.setVoice (v : VoiceId) (x : Voice) (s : State) : State := { s with voices := s.voices.set v x }

/-- Replaces the watch of sink `j`. -/
def State.setWatch (j : SinkId) (x : Watch) (s : State) : State := { s with watches := s.watches.set j x }

/-- N at the call rate of the call record. -/
def State.blockSamples (s : State) : Nat := s.call.rate.samples

/-! ### Replies and the taking of a request (R173, R174) -/

/-- The status of a reply (Table 11.3). -/
inductive Status where
  | ok | okClamped | busy | badState | badArg | noEntry | full | conflict | unsupported | unknownKind | badLength
  deriving DecidableEq, Repr

/-- The number of a status (Table 11.3). -/
def Status.code (st : Status) : Byte :=
  match st with
  | .ok => 0
  | .okClamped => 1
  | .busy => 2
  | .badState => 3
  | .badArg => 4
  | .noEntry => 5
  | .full => 6
  | .conflict => 7
  | .unsupported => 8
  | .unknownKind => 9
  | .badLength => 10

/-- What a block makes of a request handed to it: the state after, and the body of the reply. -/
structure Answer where
  state : State
  body : List Byte

/-- A reply of a status byte alone; the state stands. A refused request changes nothing and raises nothing (R173). -/
def refuse (st : Status) (s : State) : Answer := ⟨s, [st.code]⟩

/-- A reply OK with the fields that follow the status. -/
def answerOk (fields : List Byte) (s : State) : Answer := ⟨s, Status.code .ok :: fields⟩

/-- A reply OK_CLAMPED when a clamp changed a number, and OK otherwise, with the fields that follow the status. -/
def answerClamped (clamped : Bool) (fields : List Byte) (s : State) : Answer :=
  ⟨s, (if clamped then Status.code .okClamped else Status.code .ok) :: fields⟩

/-- A request is taken when the reply queue has room, no RESET_SOFT has stopped the taking, and it stands at the head of the
request queue, or the queue is empty and its frame has just come (R174, R176; DESIGN CHOICE, log entry 4). -/
def canTake (m : Message) (c : ControlPort) : Bool :=
  c.replies.length < 4 && c.softReset == .notAsked && (c.requests.isEmpty || c.requests.head? == some m)

/-- Removes the head of the request queue. -/
def dropRequest (s : State) : State := { s with control := { s.control with requests := s.control.requests.tail } }

/-- Appends a reply to the reply queue. -/
def appendReply (m : Message) (s : State) : State :=
  { s with control := { s.control with replies := s.control.replies ++ [m] } }

/-- The taking of a request, in one event: it leaves the request queue, its block answers it, and the reply, of kind `replyKind`
and with the tag echoed, enters the reply queue (R174). A request that cannot be taken waits: nothing changes. -/
def takeWith (replyKind : Byte) (m : Message) (answer : State → Answer) (s : State) : State :=
  if canTake m s.control then
    appendReply ⟨replyKind, m.tag, (answer (dropRequest s)).body⟩ (answer (dropRequest s)).state
  else s

/-- The taking of a request of a known kind: the reply's kind is the request's plus 0x80 (Table 11.1). -/
def takeRequest (kind tag : Byte) (body : List Byte) (answer : State → Answer) (s : State) : State :=
  takeWith (kind + 0x80) ⟨kind, tag, body⟩ answer s

/-! ### The key unit's draws (DESIGN CHOICE, log entry 6) -/

/-- Draws a fresh value of the key unit: the counter goes on, so that the next draw is another free value. -/
def countDraw (s : State) : State := { s with draws := s.draws + 1 }

/-! ### The reset of the part (R2 and every chapter's reset rule) -/

/-- Every block takes its reset values. The queue of commands and the model's counter of draws are no state of the part and
stand. -/
def resetPart (s : State) : State := { State.reset with draws := s.draws, pending := s.pending }

/-- Takes the four values of the slots in rising order through a step of the state (DEDUCED, log entry 13). -/
def forEachSlot (f : SlotId → State → State) (s : State) : State := f 3 (f 2 (f 1 (f 0 s)))

end Sys2Proof.Machine
end

