-- ==== Sys2Proof/Machine/Operands.lean ====
section
/-! DEFINITION. The operand forms: how the bytes of a body stand for the values a rule names, and the other way (R173). A choice is
its position in the list of the owning rule, counting from 0; a byte that stands for no value gives `none`. -/

namespace Sys2Proof.Machine

open Sys2Proof

/-- An index below `n`. -/
def indexOfByte (n : Nat) (b : Byte) : Option (Fin n) := if h : b.toNat < n then some ⟨b.toNat, h⟩ else none

/-- On or off, yes or no: 1 or 0 (DEDUCED, log entry 19). -/
def switchOfByte (b : Byte) : Option Bool :=
  match b.toNat with
  | 0 => some false
  | 1 => some true
  | _ => none

/-- The byte of on or off, yes or no. -/
def switchByte (on : Bool) : Byte := if on then 1 else 0

/-! ### The call record (R4, R17, R18) -/

/-- A call rate of CALL_OPEN. -/
def rateOfByte (b : Byte) : Option CallRate :=
  match b.toNat with
  | 0 => some .hz8000
  | 1 => some .hz16000
  | 2 => some .hz32000
  | _ => none

/-- The byte of a call rate. -/
def CallRate.code (r : CallRate) : Byte :=
  match r with
  | .hz8000 => 0
  | .hz16000 => 1
  | .hz32000 => 2

/-- A word position of CALL_OPEN. -/
def wordPositionOfByte (b : Byte) : Option WordPosition :=
  match b.toNat with
  | 0 => some .first
  | 1 => some .second
  | _ => none

/-- The byte of a word position. -/
def WordPosition.code (w : WordPosition) : Byte :=
  match w with
  | .first => 0
  | .second => 1

/-- A byte order of CALL_OPEN. -/
def byteOrderOfByte (b : Byte) : Option ByteOrder :=
  match b.toNat with
  | 0 => some .normal
  | 1 => some .swapped
  | _ => none

/-- The byte of a byte order. -/
def ByteOrder.code (o : ByteOrder) : Byte :=
  match o with
  | .normal => 0
  | .swapped => 1

/-- A loopback setting of CALL_OPEN. -/
def loopbackOfByte (b : Byte) : Option Loopback :=
  match b.toNat with
  | 0 => some .off
  | 1 => some .port
  | _ => none

/-- The byte of a loopback setting. -/
def Loopback.code (l : Loopback) : Byte :=
  match l with
  | .off => 0
  | .port => 1

/-- The number of a call state (Table 1.5). -/
def CallState.code (c : CallState) : Byte :=
  match c with
  | .idle => 0
  | .opening => 1
  | .live => 2
  | .held => 3
  | .lost => 4
  | .closing => 5

/-- The number of a close reason (Table 1.5). -/
def CloseReason.code (r : CloseReason) : Byte :=
  match r with
  | .none => 0
  | .byRequest => 1
  | .noSync => 2
  | .syncLost => 3

/-- The number of resume-to (R18). -/
def ResumeTo.code (r : ResumeTo) : Byte :=
  match r with
  | .live => 0
  | .held => 1

/-- The call state that resume-to names. -/
def ResumeTo.callState (r : ResumeTo) : CallState :=
  match r with
  | .live => .live
  | .held => .held

/-- The number of a stream slot's state (R18). -/
def SlotState.code (x : SlotState) : Byte :=
  match x with
  | .free => 0
  | .joining => 1
  | .streaming => 2
  | .leaving => 3

/-- The number of a queue's state (Table 11.5). -/
def QueueState.code (q : QueueState) : Byte :=
  match q with
  | .stopped => 0
  | .filling => 1
  | .playing => 2
  | .starved => 3

/-! ### Roster contents (R22, R24, R26) -/

/-- Bytes as one number, the first byte the most significant: addresses and keys are strings of bytes in their own order
(DEDUCED, log entry 9). -/
def numberOfBytes (bytes : List Byte) : Nat := bytes.foldl (fun n b => 256 * n + b.toNat) 0

/-- The `n` bytes of a number below 256^n, the first byte the most significant. -/
def bytesOfNumber (n value : Nat) : List Byte :=
  match n with
  | 0 => []
  | k + 1 => bytesOfNumber k (value / 256) ++ [BitVec.ofNat 8 value]

/-- The rate set of a byte in which member k adds 2^k; no byte stands for an empty set or for a rate outside the list. -/
def rateSetOfByte (b : Byte) : Option RateSet :=
  match b.toNat with
  | 1 => some .only8
  | 2 => some .only16
  | 3 => some .both8and16
  | 4 => some .only32
  | 5 => some .both8and32
  | 6 => some .both16and32
  | 7 => some .all
  | _ => none

/-- The byte of a rate set. -/
def RateSet.code (r : RateSet) : Byte :=
  match r with
  | .only8 => 1
  | .only16 => 2
  | .both8and16 => 3
  | .only32 => 4
  | .both8and32 => 5
  | .both16and32 => 6
  | .all => 7

/-- Whether a rate set holds a rate. -/
def RateSet.holds (r : RateSet) (rate : CallRate) : Bool :=
  match rate with
  | .hz8000 => r.code.getLsbD 0
  | .hz16000 => r.code.getLsbD 1
  | .hz32000 => r.code.getLsbD 2

/-- A clock class: A, B or C. -/
def clockClassOfByte (b : Byte) : Option ClockClass :=
  match b.toNat with
  | 0 => some .a
  | 1 => some .b
  | 2 => some .c
  | _ => none

/-- The byte of a clock class. -/
def ClockClass.code (cls : ClockClass) : Byte :=
  match cls with
  | .a => 0
  | .b => 1
  | .c => 2

/-- The class limit L (Table 2.3). -/
def ClockClass.limit (cls : ClockClass) : Nat :=
  match cls with
  | .a => 1174
  | .b => 1678
  | .c => 2517

/-- The place that a role and a set id make: LEFT (0) and RIGHT (1) with a set id, MONO (2) with none. Anything else is
malformed (R22). -/
def placeOf (role : Byte) (setId : Option Byte) : Option Place :=
  match role.toNat, setId with
  | 0, some id => some (.left id)
  | 1, some id => some (.right id)
  | 2, none => some .mono
  | _, _ => none

/-- The byte of a place's role. -/
def Place.roleCode (p : Place) : Byte :=
  match p with
  | .left _ => 0
  | .right _ => 1
  | .mono => 2

/-- The set id of a place, absent for MONO. -/
def Place.setId (p : Place) : Option Byte :=
  match p with
  | .left id => some id
  | .right id => some id
  | .mono => none

/-- Declared fields checked as roster contents: `none` when they are malformed or outside their lists (R22; DEDUCED, log entry
29). -/
def checkDeclared (address : Address) (raw : RawDeclared) : Option Declared :=
  match placeOf raw.role raw.setId, switchOfByte raw.microphone, rateSetOfByte raw.rates, clockClassOfByte raw.clockClass with
  | some place, some mic, some rates, some cls => some ⟨address, place, mic, rates, cls⟩
  | _, _, _, _ => none

/-- The byte of a body at an offset. -/
def byteAt (body : List Byte) (i : Nat) : Byte := body.getD i 0

/-- The contents that a ROSTER_PUT body carries after its index: `none` when malformed. With the set-present flag clear the set
id's byte is not examined (R24). -/
def contentsOfBody (body : List Byte) : Option Contents :=
  match switchOfByte (byteAt body 7) with
  | none => none
  | some present =>
    match checkDeclared (BitVec.ofNat 48 (numberOfBytes ((body.drop 1).take 6)))
        ⟨if present then some (byteAt body 8) else none, byteAt body 9, byteAt body 10, byteAt body 11, byteAt body 12⟩ with
    | none => none
    | some d => some ⟨d, BitVec.ofNat 128 (numberOfBytes ((body.drop 13).take 16))⟩

/-- The 28 bytes of an entry's contents, laid out as the body of ROSTER_PUT after its index (R26). -/
def Contents.bytes (c : Contents) : List Byte :=
  bytesOfNumber 6 c.declared.address.toNat
    ++ [switchByte c.declared.place.setId.isSome, c.declared.place.setId.getD 0, c.declared.place.roleCode,
        switchByte c.declared.microphone, c.declared.rates.code, c.declared.clockClass.code]
    ++ bytesOfNumber 16 c.linkKey.toNat

/-! ### Mix, voices, watches (R122, R141, R150) -/

/-- A mix source, in the order of Table 7.1's columns. -/
inductive MixSource where
  | v0 | v1 | down | own
  deriving DecidableEq, Repr

/-- A mix source of a MIX_SET item. -/
def mixSourceOfByte (b : Byte) : Option MixSource :=
  match b.toNat with
  | 0 => some .v0
  | 1 => some .v1
  | 2 => some .down
  | 3 => some .own
  | _ => none

/-- A checked item of MIX_SET: a cell of UP, a cell of an earbud sink, or a mute (R122). -/
inductive MixItem where
  | upCell (source : MixSource) (gain : Nat)
  | earCell (k : SlotId) (source : MixSource) (gain : Nat)
  | mute (sink : SinkId) (on : Bool)
  deriving DecidableEq, Repr

/-- A MIX_SET item of four bytes: the sink, the source or 255 for a mute item, and the gain or the mute value. A sink, source or
mute value outside its list, and the cell UP ← OWN, give `none` (R122, R173). -/
def mixItemOfBytes (sink source low high : Byte) : Option MixItem :=
  match indexOfByte 5 sink with
  | none => none
  | some j =>
    if source.toNat = 255 then
      match number2 low high with
      | 0 => some (.mute j false)
      | 1 => some (.mute j true)
      | _ => none
    else
      match mixSourceOfByte source with
      | none => none
      | some src =>
        match indexOfByte 4 (sink - 1) with
        | some k => some (.earCell k src (number2 low high))
        | none => if src = .own then none else some (.upCell src (number2 low high))

/-- The items of a MIX_SET body; `none` when an item names nothing that exists. The body's size has been checked. -/
def mixItemsOfBody (body : List Byte) : Option (List MixItem) :=
  match body with
  | sink :: source :: low :: high :: rest =>
    match mixItemOfBytes sink source low high, mixItemsOfBody rest with
    | some item, some items => some (item :: items)
    | _, _ => none
  | _ => some []

/-- A voice mode of VOICE_SET (R141). -/
def voiceModeOfByte (b : Byte) : Option VoiceMode :=
  match b.toNat with
  | 0 => some .both
  | 1 => some .best
  | 2 => some .left
  | 3 => some .right
  | _ => none

/-- A watch kind of WATCH_SET (R150). -/
def watchKindOfByte (b : Byte) : Option WatchKind :=
  match b.toNat with
  | 0 => some .off
  | 1 => some .peakOver
  | 2 => some .quiet
  | _ => none

/-- The code of a WATCH occurrence (R148); OFF fires nothing. -/
def WatchKind.code (k : WatchKind) : Byte :=
  match k with
  | .off => 0
  | .peakOver => 1
  | .quiet => 2

/-- The number of a failure reason (Table 3.3). -/
def FailReason.code (r : FailReason) : Count32 :=
  match r with
  | .noAnswer => 1
  | .windowEnd => 2
  | .rejectedByHost => 3
  | .rejectedByEar => 4
  | .timeout => 5
  | .cancelled => 6
  | .inCall => 7
  | .conflict => 8

/-! ### Words on the PCM line (R152) -/

/-- The sample of a word on the line, and the word of a sample: in SWAPPED order the first eight bits are the least significant
byte (R152). -/
def ByteOrder.word (o : ByteOrder) (w : BitVec 16) : BitVec 16 :=
  match o with
  | .normal => w
  | .swapped => w.extractLsb' 0 8 ++ w.extractLsb' 8 8

/-- The word driven in the call's place of the PCM frame, the other place undriven (R152). -/
def drivenAt (p : WordPosition) (w : BitVec 16) : LineWords :=
  match p with
  | .first => ⟨some w, none⟩
  | .second => ⟨none, some w⟩

end Sys2Proof.Machine
end

