-- ==== Sys2Proof/Machine/Notices.lean ====
section
/-! DEFINITION. Notices (chapter 10): reports and their acknowledgement, and the four notice requests. -/

namespace Sys2Proof.Machine

open Sys2Proof

/-- The sources of class `c` that are asserted, in source-number order (R164). -/
def assertedIn (c : ClassId) (n : Notices) : List SourceId :=
  (List.finRange 15).filter fun src => n.records[src].asserted && n.route[src] == c

/-- A class is eligible while it is report enabled, an asserted source is routed to it, and it has no outstanding report (R164). -/
def eligible (c : ClassId) (n : Notices) : Bool :=
  n.classes[c].reportEnabled && !(assertedIn c n).isEmpty && n.outstanding[c] == none

/-- The lowest-numbered eligible class (R164). -/
def lowestEligible (n : Notices) : Option ClassId := (List.finRange 4).find? fun c => eligible c n

/-- The eight bytes of one record of a report (Table 11.4). -/
def recordBytes (src : SourceId) (r : SourceRecord) : List Byte :=
  BitVec.ofNat 8 src.val :: BitVec.ofNat 8 r.occurrences :: r.indexSet :: r.latestCode :: bytes4 r.latestValue.toNat

/-- A notice report body (Table 11.4). -/
def reportBody (c : ClassId) (n : Notices) : List Byte :=
  BitVec.ofNat 8 c.val :: BitVec.ofNat 8 (assertedIn c n).length
    :: (assertedIn c n).flatMap fun src => recordBytes src n.records[src]

/-- A record once a report has listed it: occurrences 0 and an empty index set (R164). -/
def SourceRecord.reported (r : SourceRecord) : SourceRecord := { r with occurrences := 0, indexSet := 0 }

/-- The records after a report of class `c`: those listed are reported, the others stand (R164). -/
def reportedRecords (c : ClassId) (n : Notices) : Vector SourceRecord 15 :=
  Vector.ofFn fun src => if n.records[src].asserted && n.route[src] == c then n.records[src].reported else n.records[src]

/-- The making of a report of class `c`: the records listed change, and the class has an outstanding report (R164). -/
def makeReport (c : ClassId) (n : Notices) : Notices :=
  { n with
    records := reportedRecords c n
    outstanding := n.outstanding.set c (some ((assertedIn c n).map fun src => ⟨src, n.records[src].indexSet⟩)) }

/-- Whether an outstanding report of any class lists a source (R162). -/
def listedSomewhere (src : SourceId) (n : Notices) : Bool :=
  (List.finRange 4).any fun c => ((n.outstanding[c]).getD []).any fun l => l.source == src

/-- A source record at the acknowledgement of a report that listed it: cleared when no occurrence has come since (R166). -/
def SourceRecord.acknowledged (r : SourceRecord) : SourceRecord :=
  if r.occurrences = 0 then { r with asserted := false } else r

/-- The acknowledgement of a report of class `c` that listed `report`: each listed source is handled, and the report ends (R166). -/
def acknowledge (c : ClassId) (report : List Listed) (n : Notices) : Notices :=
  settleAttention
    { n with
      records := Vector.ofFn fun src =>
        if report.any (fun l => l.source == src) then n.records[src].acknowledged else n.records[src]
      outstanding := n.outstanding.set c none }

/-- The watch of sink `j` at the acknowledgement of a report that carried the index set `told` for WATCH: re-armed when its sink
was told and no occurrence for it has come since, whether it is FIRED or has been set anew since (R149; DEDUCED, log entry 20). -/
def rearmed (told now : IndexSet) (j : SinkId) (w : Watch) : Watch :=
  if told.getLsbD j && !now.getLsbD j then { w with fired := false, run := 0 } else w

/-- The watches at the acknowledgement of a report, which re-arms those it told of when it listed WATCH (R149, R166). -/
def rearmWatches (report : List Listed) (now : IndexSet) (watches : Vector Watch 5) : Vector Watch 5 :=
  match report.find? fun l => l.source == Source.watch with
  | some l => Vector.ofFn fun j => rearmed l.indexSet now j watches[j]
  | none => watches

/-! ### The requests -/

/-- NOTICE_ROUTE (R162). -/
def noticeRoute (body : List Byte) (s : State) : Answer :=
  match body with
  | [source, cls] =>
    match indexOfByte 15 source, indexOfByte 4 cls with
    | some src, some c =>
      if listedSomewhere src s.notices then refuse .busy s
      else answerOk [] { s with notices := settleAttention { s.notices with route := s.notices.route.set src c } }
    | _, _ => refuse .badArg s
  | _ => refuse .badLength s

/-- NOTICE_MASK (R163). -/
def noticeMask (body : List Byte) (s : State) : Answer :=
  match body with
  | [cls, report, wake] =>
    match indexOfByte 4 cls, switchOfByte report, switchOfByte wake with
    | some c, some r, some w =>
      answerOk [] { s with notices := settleAttention { s.notices with classes := s.notices.classes.set c ⟨r, w⟩ } }
    | _, _, _ => refuse .badArg s
  | _ => refuse .badLength s

/-- NOTICE_ACK (R166, R149). -/
def noticeAck (body : List Byte) (s : State) : Answer :=
  match body with
  | [cls] =>
    match indexOfByte 4 cls with
    | some c =>
      match s.notices.outstanding[c] with
      | some report =>
        answerOk []
          { s with
            notices := acknowledge c report s.notices
            watches := rearmWatches report s.notices.records[Source.watch].indexSet s.watches }
      | none => refuse .badState s
    | none => refuse .badArg s
  | _ => refuse .badLength s

/-- NOTICE_POLL (R165). -/
def noticePoll (body : List Byte) (s : State) : Answer :=
  match body with
  | [cls] =>
    match indexOfByte 4 cls with
    | some c =>
      if s.notices.outstanding[c] == none then
        if (assertedIn c s.notices).isEmpty then answerOk (reportBody c s.notices) s
        else answerOk (reportBody c s.notices) { s with notices := makeReport c s.notices }
      else refuse .badState s
    | none => refuse .badArg s
  | _ => refuse .badLength s

/-- The command NOTICE_ROUTE. -/
def execNoticeRoute (tag : Byte) (body : List Byte) (s : State) : Host.Outcome State Fault Refusal :=
  .next (takeRequest 0x18 tag body (noticeRoute body) s)

/-- The command NOTICE_MASK. -/
def execNoticeMask (tag : Byte) (body : List Byte) (s : State) : Host.Outcome State Fault Refusal :=
  .next (takeRequest 0x19 tag body (noticeMask body) s)

/-- The command NOTICE_ACK. -/
def execNoticeAck (tag : Byte) (body : List Byte) (s : State) : Host.Outcome State Fault Refusal :=
  .next (takeRequest 0x1A tag body (noticeAck body) s)

/-- The command NOTICE_POLL. -/
def execNoticePoll (tag : Byte) (body : List Byte) (s : State) : Host.Outcome State Fault Refusal :=
  .next (takeRequest 0x1C tag body (noticePoll body) s)

end Sys2Proof.Machine
end

