-- ==== Sys2Proof/Machine/Converter.lean ====
section
/-! DEFINITION. The rate converter of one stream (R108 to R117): the conversion of one block, over the converter record and the
receive queue it reads. -/

namespace Sys2Proof.Machine

open Sys2Proof

/-- What a conversion works on: the record, the queue, the output so far with the newest sample first, whether a sample of a fill
frame has been used, and whether the queue has starved in this block. -/
structure Reader where
  conv : Converter
  queue : RxQueue
  outReversed : List Sample
  usedFill : Bool
  starved : Bool

/-- The samples of an entry as the converter reads them: N zeros when NO_MIC is set (R79, R109). -/
def QueueEntry.audio (n : Nat) (e : QueueEntry) : List Sample :=
  if e.noMic then List.replicate n 0 else e.samples.getD (List.replicate n 0)

/-- The oldest entry not yet entered: the one behind the head while the current frame is real, else the head (R110). -/
def nextUnentered (c : Converter) (q : RxQueue) : Option QueueEntry :=
  match c.current with
  | .real => q.entries[1]?
  | _ => q.entries.head?

/-- The samples of a fill frame: each sample of the fill source divided by 2 or 4, toward zero (R112). -/
def fillFrame (n : Nat) (divisor : Int) (c : Converter) : InFrame :=
  .fill ((c.fillSource.getD (List.replicate n 0)).map (Sample.scaledDown divisor))

/-- The drift window abandoned: CLOSED, its points absent and its point count 0 (R101, R103; DEDUCED, log entry 34). -/
def Converter.abandonWindow (c : Converter) : Converter :=
  { c with windowOpen := false, firstPoint := none, lastPoint := none, pointCount := 0 }

/-- The gap from the claimed edge to a stamp, as a signed number (R111). -/
def stampGap (edge stamp : Count32) : Int := (stamp - edge).toInt

/-- The choice of the next frame (R110, R111): the frame, and the record and counts after the choice; `none` when no frame can be
had. -/
def chooseNext (n : Nat) (r : Reader) : Option (InFrame × Reader) :=
  if 0 < r.conv.fillPending then some (fillFrame n 4 r.conv, r)
  else
    match nextUnentered r.conv r.queue with
    | none => none
    | some e =>
      if stampGap r.conv.claimedEdge e.stamp = 0 then some (.real, r)
      else if stampGap r.conv.claimedEdge e.stamp = n then
        some (fillFrame n 2 r.conv, { r with conv := { r.conv with fillPending := 1 } })
      else if stampGap r.conv.claimedEdge e.stamp = 2 * n then
        some (fillFrame n 2 r.conv, { r with conv := { r.conv with fillPending := 2 } })
      else
        some (.real,
          { r with
            conv := { r.conv.abandonWindow with claimedEdge := e.stamp, fraction := 0 }
            queue := { r.queue with
              stats := { r.queue.stats with discontinuities := bump r.queue.stats.discontinuities } } })

/-- Entering a frame: it becomes the current frame, the claimed edge moves on by N, and no follower is chosen (R112). -/
def enterFrame (n : Nat) (f : InFrame) (r : Reader) : Reader :=
  match f with
  | .none => { r with conv := { r.conv with current := .none, follower := .none } }
  | .real =>
    match r.queue.entries.head? with
    | none => { r with conv := { r.conv with current := .none, follower := .none } }
    | some e =>
      { r with
        conv := { r.conv with
          current := .real, follower := .none, claimedEdge := e.stamp + BitVec.ofNat 32 n, fillSource := some (e.audio n) } }
  | .fill samples =>
    { r with
      conv := { r.conv with
        current := .fill samples, follower := .none, claimedEdge := r.conv.claimedEdge + BitVec.ofNat 32 n,
        fillPending := r.conv.fillPending - 1 }
      queue := { r.queue with stats := { r.queue.stats with gapFilled := bump r.queue.stats.gapFilled } } }

/-- The current frame is finished: a real entry leaves the head of the queue and counts as consumed, a fill frame is dropped
(R88, R109). -/
def finishCurrent (r : Reader) : Reader :=
  match r.conv.current with
  | .real =>
    { r with
      conv := { r.conv with current := .none }
      queue := { r.queue with
        entries := r.queue.entries.tail
        stats := { r.queue.stats with consumed := bump r.queue.stats.consumed } } }
  | _ => { r with conv := { r.conv with current := .none } }

/-- The queue starves (R89, R113): the current frame is finished, the edge freezes, and a run of concealment goes on. -/
def starve (r : Reader) : Reader :=
  { finishCurrent r with
    conv := { (finishCurrent r).conv with
      follower := .none, fillSource := none, fillPending := 0, edgeState := .frozen,
      concealmentRun := saturatingSucc 4 r.conv.concealmentRun }
    queue := { (finishCurrent r).queue with state := .starved, quiet := 0, arrival := false }
    starved := true }

/-- Standing between frames, the converter moves onto the next frame: the follower already chosen, or a new choice (R110, R117). -/
def enterNext (n : Nat) (r : Reader) : Reader :=
  match r.conv.follower with
  | .none =>
    match chooseNext n r with
    | none => starve r
    | some (f, r') => enterFrame n f r'
  | f => enterFrame n f r

/-- The follower is chosen and stands until it is entered (R110). -/
def chooseFollower (n : Nat) (r : Reader) : Reader :=
  match chooseNext n r with
  | none => starve r
  | some (f, r') => { r' with conv := { r'.conv with follower := f } }

/-- The samples of the current frame (R109; DESIGN CHOICE, log entry 28). -/
def currentAudio (n : Nat) (r : Reader) : List Sample :=
  match r.conv.current with
  | .none => []
  | .real => (r.queue.entries.head?.map (QueueEntry.audio n)).getD []
  | .fill samples => samples

/-- The samples of the follower (R109). -/
def followerAudio (n : Nat) (r : Reader) : List Sample :=
  match r.conv.follower with
  | .none => []
  | .real => ((nextUnentered r.conv r.queue).map (QueueEntry.audio n)).getD []
  | .fill samples => samples

/-- x(j + 1): the next sample of the current frame, or sample 0 of the follower at the frame's last sample (R109). -/
def secondSample (n : Nat) (r : Reader) : Sample :=
  if r.conv.index + 1 < n then (currentAudio n r).getD (r.conv.index + 1) 0 else (followerAudio n r).getD 0 0

/-- Interpolation: x(j) plus (x(j + 1) − x(j)) × F divided by 2^24 with round half up (R109). -/
def interpolate (x0 x1 : Sample) (fraction : Nat) : Sample :=
  BitVec.ofInt 16 (x0.toInt + roundHalfUp ((x1.toInt - x0.toInt) * fraction) 16777216)

/-- Whether the output sample in hand takes a sample of a fill frame (R116). -/
def takesFill (n : Nat) (c : Converter) : Bool :=
  match c.current with
  | .fill _ => true
  | _ =>
    if c.index + 1 < n then false
    else
      match c.follower with
      | .fill _ => true
      | _ => false

/-- The advance of the read position by the applied step; past the last sample the current frame is finished and a chosen
follower entered, or the converter stands between frames (R109). -/
def advance (n step : Nat) (r : Reader) : Reader :=
  let moved : Reader :=
    { r with
      conv := { r.conv with
        index := r.conv.index + (r.conv.fraction + step) / 16777216
        fraction := (r.conv.fraction + step) % 16777216 } }
  if moved.conv.index < n then moved
  else
    let done := finishCurrent { moved with conv := { moved.conv with index := moved.conv.index - n } }
    match done.conv.follower with
    | .none => done
    | f => enterFrame n f done

/-- One output sample of starvation concealment: half of the last output block's sample, or 0 at the fourth block (R113, R115). -/
def concealmentSample (c : Converter) (i : Nat) : Sample :=
  if c.concealmentRun < 4 then Sample.scaledDown 2 (c.lastOutput.getD i 0) else 0

/-- One output sample is added to the output. -/
def Reader.push (x : Sample) (r : Reader) : Reader := { r with outReversed := x :: r.outReversed }

/-- The next frame is made sure of before an output sample is formed: standing between frames it is entered, and at the last
sample of a frame a follower is chosen (R110). -/
def readyFrames (n : Nat) (r : Reader) : Reader :=
  let r1 := if r.conv.current = .none then enterNext n r else r
  if r1.starved then r1
  else if r1.conv.index + 1 < n then r1
  else if r1.conv.follower = .none then chooseFollower n r1
  else r1

/-- One output sample of a block read in PLAYING (R109, R113). -/
def readSample (n step : Nat) (r : Reader) : Reader :=
  if r.starved then r.push (concealmentSample r.conv r.outReversed.length)
  else
    let ready := readyFrames n r
    if ready.starved then ready.push (concealmentSample ready.conv ready.outReversed.length)
    else
      advance n step
        { ready.push (interpolate ((currentAudio n ready).getD ready.conv.index 0) (secondSample n ready) ready.conv.fraction) with
          usedFill := ready.usedFill || takesFill n ready.conv }

/-- `count` output samples, in order (R109). -/
def readSamples (n step count : Nat) (r : Reader) : Reader :=
  match count with
  | 0 => r
  | k + 1 => readSamples n step k (readSample n step r)

/-- The applied step of a block: the base step plus 32 × (depth − set point), the trim clamped to −1024..1024 (R108). -/
def blockStep (c : Converter) (q : RxQueue) : Nat :=
  ((c.baseStep : Int) + clampInt (-1024) 1024 (32 * ((q.entries.length : Int) - q.setPoint))).toNat

/-- The fresh start: the head entry is entered at sample 0 with fraction 0 and no gap taken; a return from STARVED whose head
stands off the frozen edge counts as a resync (R114). -/
def freshStart (n : Nat) (r : Reader) : Reader :=
  match r.queue.entries.head? with
  | none => { r with conv := { r.conv with freshStartPending := false } }
  | some e =>
    { r with
      conv := { r.conv with
        current := .real, index := 0, fraction := 0, follower := .none, fillPending := 0, fillSource := some (e.audio n),
        claimedEdge := e.stamp + BitVec.ofNat 32 n, edgeState := .moving, freshStartPending := false }
      queue := { r.queue with
        stats := { r.queue.stats with
          resyncs :=
            if r.conv.edgeState = .frozen ∧ e.stamp ≠ r.conv.claimedEdge then bump r.queue.stats.resyncs
            else r.queue.stats.resyncs } } }

/-- What a conversion gives: the record and the queue after it, the stream's output, absent when the stream is absent from the
block, and whether the queue starved in it. -/
structure Conversion where
  conv : Converter
  queue : RxQueue
  output : Option (List Sample)
  starved : Bool

/-- The outcome enters the quality window at the newest end, and the oldest leaves (R99). -/
def appendOutcome (o : BlockOutcome) (window : List BlockOutcome) : List BlockOutcome := window.tail ++ [o]

/-- The completion of a block (R116): the output becomes the last output block, the starved-blocks count or the concealment run
follows, and the outcome is appended. `concealed` says whether the block held starvation concealment. -/
def completeBlock (output : List Sample) (concealed usedFill : Bool) (c : Converter) (q : RxQueue) : Converter × RxQueue :=
  ({ c with lastOutput := output, concealmentRun := if concealed then c.concealmentRun else 0 },
   { q with
     stats := if concealed then { q.stats with starvedBlocks := bump q.stats.starvedBlocks } else q.stats
     quality := appendOutcome (if concealed || usedFill then .concealed else .good) q.quality })

/-- The conversion of a block that begins with the queue PLAYING (R108, R109, R114, R116). -/
def convertPlaying (n : Nat) (c : Converter) (q : RxQueue) : Conversion :=
  let step := blockStep c q
  let begun : Reader := ⟨{ c with appliedStep := step }, q, [], false, false⟩
  let r := readSamples n step n (if c.freshStartPending then freshStart n begun else begun)
  let done := completeBlock r.outReversed.reverse r.starved r.usedFill r.conv r.queue
  ⟨done.1, done.2, some r.outReversed.reverse, r.starved⟩

/-- The conversion of a block that begins with the queue STARVED: concealment from end to end (R115, R116). -/
def convertStarved (n : Nat) (c : Converter) (q : RxQueue) : Conversion :=
  let c1 := { c with concealmentRun := saturatingSucc 4 c.concealmentRun }
  let output := (List.range n).map (concealmentSample c1)
  let done := completeBlock output true false c1 q
  ⟨done.1, done.2, some output, false⟩

/-- What a stream gives to a block, by the state of its queue when the conversion begins (R81). -/
def convertBlock (n : Nat) (c : Converter) (q : RxQueue) : Conversion :=
  match q.state with
  | .stopped => ⟨c, q, none, false⟩
  | .filling => ⟨c, q, none, false⟩
  | .playing => convertPlaying n c q
  | .starved => convertStarved n c q

/-- The starting state that the completion of a closing gives a record: class limit, base step and last measured step stand
(R14, R101). -/
def Converter.closed (n : Nat) (c : Converter) : Converter :=
  { Converter.starting c.classLimit n with baseStep := c.baseStep, lastMeasured := c.lastMeasured }

/-- What the slot's leaving of STREAMING does to the record (R101). -/
def Converter.leaveStreaming (c : Converter) : Converter :=
  { c.abandonWindow with
    current := .none, follower := .none, fillSource := none, fillPending := 0, freshStartPending := false,
    edgeState := .notInForce }

end Sys2Proof.Machine
end

