-- ==== Sys2Proof/Machine/Queues.lean ====
section
/-! DEFINITION. Receive queues (chapter 5) and the drift tracker (R102 to R107): arrivals, flushes, refills, measurement windows,
QUEUE_SET and STATS_GET. -/

namespace Sys2Proof.Machine

open Sys2Proof

/-! ### Arrivals (R82 to R86) -/

/-- Whether an arrival is a duplicate: not newer than the last accepted, or not newer than the oldest entry held (R83). -/
def isDuplicate (lastAccepted : Option Sequence) (q : RxQueue) (sequence : Sequence) : Bool :=
  (lastAccepted.any fun a => !newer sequence a) || (q.entries.head?.any fun e => !newer sequence e.sequence)

/-- Whether an arrival is late: the claimed edge is in force and the stamp lies before it (R84). -/
def isLate (c : Converter) (stamp : Count32) : Bool := c.edgeState != .notInForce && stampGap c.claimedEdge stamp < 0

/-- The queue entry of an UP taken in a slot with this anchor (Table 5.2). -/
def entryOf (f : UpFrame) (anchor : Tick) (retried : Bool) : QueueEntry :=
  ⟨f.sequence, f.stamp, anchor, f.readyLag, retried, f.noMic, f.samples⟩

/-- The measurement point of an entry: (anchor − ready lag, stamp), when its ready lag is at most 1,000,000 ticks (R102). -/
def pointOf (e : QueueEntry) : Option Point :=
  if e.readyLag.toNat ≤ 1000000 then some ⟨e.anchor - e.readyLag.zeroExtend 32, e.stamp⟩ else none

/-- A point given to the drift tracker: it opens a window, or becomes the last point of the open one (R103). -/
def Converter.givePoint (interval : Count32) (p : Point) (c : Converter) : Converter :=
  if c.windowOpen then { c with lastPoint := some p, pointCount := c.pointCount + 1 }
  else
    { c with
      windowOpen := true, firstPoint := some p, lastPoint := some p, pointCount := 1, openingInterval := interval }

/-- What an overrun does to the converter: it abandons a partly read head, keeping its fraction and a chosen follower; else it
gives up a real follower, which was the entry removed (R86, R117; DEDUCED, log entry 33). -/
def Converter.overrun (c : Converter) : Converter :=
  match c.current with
  | .real => { c with current := .none, index := 0 }
  | _ => if c.follower = .real then { c with follower := .none } else c

/-- Room for an entry: a queue that holds eight drops its oldest (R86). -/
def makeRoom (k : SlotId) (s : State) : State :=
  if 8 ≤ s.queues[k].entries.length then
    raiseAt Source.queueOverrun 1 k
      ((s.setQueue k
          { s.queues[k] with
            entries := s.queues[k].entries.tail
            stats := { s.queues[k].stats with overruns := bump s.queues[k].stats.overruns } }).setConv k
        s.convs[k].overrun)
  else s

/-- The queue enters PLAYING, and the converter is told to make a fresh start (R91). -/
def enterPlaying (k : SlotId) (s : State) : State :=
  (s.setQueue k { s.queues[k] with state := .playing }).setConv k { s.convs[k] with freshStartPending := true }

/-- The counts of an accepted arrival (R85). -/
def Stats.accept (retried : Bool) (st : Stats) : Stats :=
  { st with
    acceptedArrivals := bump st.acceptedArrivals
    retriedArrivals := if retried then bump st.retriedArrivals else st.retriedArrivals }

/-- The arrival is noted: last accepted, the counts, the quiet count and the arrival flag (R85). -/
def noteArrival (k : SlotId) (e : QueueEntry) (s : State) : State :=
  (s.setSlot k { s.slots[k] with lastAccepted := some e.sequence }).setQueue k
    { s.queues[k] with stats := s.queues[k].stats.accept e.retried, quiet := 0, arrival := true }

/-- The arrival is offered to the drift tracker (R85, R102). -/
def offerPoint (k : SlotId) (e : QueueEntry) (s : State) : State :=
  match pointOf e with
  | some p => s.setConv k (s.convs[k].givePoint s.air.interval p)
  | none => s

/-- The entry is appended at the tail (R85). -/
def appendEntry (k : SlotId) (e : QueueEntry) (s : State) : State :=
  s.setQueue k { s.queues[k] with entries := s.queues[k].entries ++ [e] }

/-- Whether a queue that waits has reached its start level (R85, R87). -/
def reachesStart (q : RxQueue) : Bool :=
  (q.state == .filling || q.state == .starved) && q.startLevel ≤ q.entries.length

/-- A queue that waits enters PLAYING when its depth is at or above the start level (R85). -/
def startIfReady (k : SlotId) (s : State) : State := if reachesStart s.queues[k] then enterPlaying k s else s

/-- An accepted arrival, all in one event (R85). -/
def acceptArrival (k : SlotId) (e : QueueEntry) (s : State) : State :=
  startIfReady k (appendEntry k e (makeRoom k (offerPoint k e (noteArrival k e s))))

/-- A discarded arrival is counted and reported with code DUPLICATE (1) or LATE (2) (R83, R84, R100). -/
def discardArrival (k : SlotId) (code : Byte) (stats : Stats) (s : State) : State :=
  raiseAt Source.arrivalDiscard code k (s.setQueue k { s.queues[k] with stats := stats })

/-- An UP handed to queue `k`: ignored, discarded as DUPLICATE or LATE, or accepted (R82). -/
def takeArrival (k : SlotId) (e : QueueEntry) (s : State) : State :=
  if s.queues[k].state = .stopped then s
  else if isDuplicate s.slots[k].lastAccepted s.queues[k] e.sequence then
    discardArrival k 1 { s.queues[k].stats with duplicates := bump s.queues[k].stats.duplicates } s
  else if isLate s.convs[k] e.stamp then
    discardArrival k 2 { s.queues[k].stats with lates := bump s.queues[k].stats.lates } s
  else acceptArrival k e s

/-! ### Entering and leaving STREAMING (R80, R93) -/

/-- Queue `q` as its slot enters STREAMING (R80). -/
def RxQueue.begin (q : RxQueue) : RxQueue :=
  { q with
    state := .filling, entries := [], quiet := 0, arrival := false, stats := Stats.reset,
    quality := List.replicate 16 .good }

/-- Queue `q` flushed (R93). -/
def RxQueue.flush (q : RxQueue) : RxQueue :=
  { q with
    state := .stopped, entries := [], quiet := 0, arrival := false,
    stats := { q.stats with flushed := bumpBy q.entries.length q.stats.flushed } }

/-! ### The end of an interval (R90) -/

/-- The quiet count and the arrival flag at the end of an interval (R90, items 1 and 2). -/
def RxQueue.endInterval (q : RxQueue) : RxQueue :=
  match q.state with
  | .filling => { q with quiet := if q.arrival then q.quiet else saturatingSucc 4 q.quiet, arrival := false }
  | .starved => { q with quiet := if q.arrival then q.quiet else saturatingSucc 4 q.quiet, arrival := false }
  | .stopped => { q with arrival := false }
  | .playing => { q with arrival := false }

/-- Whether the fill timeout has expired: four quiet intervals with at least one entry held (R90). -/
def fillTimeoutDue (q : RxQueue) : Bool :=
  (q.state == .filling || q.state == .starved) && 4 ≤ q.quiet && !q.entries.isEmpty

/-- The fill timeout of queue `k`, when it has expired (R90). -/
def fillTimeout (k : SlotId) (s : State) : State := if fillTimeoutDue s.queues[k] then enterPlaying k s else s

/-! ### The drift windows (R103 to R107) -/

/-- Whether a slot's link loss waits to be taken: a supervision count of 50 in STREAMING, or in LEAVING where the leave does not
end in the same interval (R69). -/
def linkLossDue (x : StreamSlot) : Bool :=
  match x.state with
  | .streaming => 50 ≤ x.supervision
  | .leaving => 50 ≤ x.supervision && x.intervalCount < 3
  | _ => false

/-- Whether stream `k`'s window closes now: the 64th interval after its opening one has ended, and no link loss at the same end
abandons it (R103). -/
def windowCloseDue (k : SlotId) (s : State) : Bool :=
  s.convs[k].windowOpen && 65 ≤ (s.air.interval - s.convs[k].openingInterval).toNat && !linkLossDue s.slots[k]

/-- The measured step: 2^24 × ΔS × P divided by T with round half up (R104). -/
def measuredStep (deltaS period t : Nat) : Nat := (roundHalfUp (16777216 * deltaS * period : Nat) t).toNat

/-- The verdict on a closed window (R104, R105). -/
inductive Verdict where
  /-- too few points, or nothing to divide -/
  | fewPoints
  /-- measured, and more than 4 × L away from 2^24 -/
  | wild (measured : Nat)
  /-- accepted with this target, which the clamp changed or not -/
  | accepted (measured target : Nat) (clamped : Bool)
  deriving DecidableEq, Repr

/-- The judgement of a window at its close (R104, R105). -/
def judgeWindow (period : Nat) (c : Converter) : Verdict :=
  match c.firstPoint, c.lastPoint with
  | some a, some z =>
    if c.pointCount < 16 || (z.stamp - a.stamp).toNat == 0 || (z.time - a.time).toNat == 0 then .fewPoints
    else
      let m := measuredStep (z.stamp - a.stamp).toNat period (z.time - a.time).toNat
      if 4 * c.classLimit < ((m : Int) - 16777216).natAbs then .wild m
      else
        let target := clampNat (16777216 - c.classLimit) (16777216 + c.classLimit) m
        .accepted m target (target != m)
  | _, _ => .fewPoints

/-- The base step moves a quarter of the way toward the target, the quarter rounded toward zero (R105). -/
def steppedToward (target base : Nat) : Nat := ((base : Int) + ((target : Int) - base).tdiv 4).toNat

/-- The record after a window's close: held and CLOSED, or moved and open again from its last point (R104, R105). -/
def Converter.closeWindow (v : Verdict) (c : Converter) : Converter :=
  match v with
  | .fewPoints => c.abandonWindow
  | .wild m => { c.abandonWindow with lastMeasured := m }
  | .accepted m target _ =>
    { c with
      lastMeasured := m, baseStep := steppedToward target c.baseStep, firstPoint := c.lastPoint, pointCount := 1,
      openingInterval := c.openingInterval + 64 }

/-- The window counts after a close (R104, R105). -/
def Stats.closeWindow (v : Verdict) (st : Stats) : Stats :=
  match v with
  | .fewPoints => { st with windowsRejected := bump st.windowsRejected }
  | .wild _ => { st with windowsRejected := bump st.windowsRejected }
  | .accepted _ _ _ => { st with windowsAccepted := bump st.windowsAccepted }

/-- The reason that DRIFT_HOLD carries after a close, if it is raised (R107). -/
def Verdict.hold (v : Verdict) : Option Byte :=
  match v with
  | .fewPoints => some 1
  | .wild _ => some 2
  | .accepted _ _ clamped => if clamped then some 3 else none

/-- DRIFT_HOLD with a reason, if there is one (R107). -/
def raiseHold (k : SlotId) (reason : Option Byte) (s : State) : State :=
  match reason with
  | some r => raiseAt Source.driftHold r k s
  | none => s

/-- Stream `k`'s window closed with a verdict. -/
def closeWindowWith (k : SlotId) (v : Verdict) (s : State) : State :=
  raiseHold k v.hold
    ((s.setConv k (s.convs[k].closeWindow v)).setQueue k
      { s.queues[k] with stats := s.queues[k].stats.closeWindow v })

/-- The close of stream `k`'s drift window, when it is due (R103, R104). -/
def driftWindowClose (k : SlotId) (s : State) : State :=
  if windowCloseDue k s then closeWindowWith k (judgeWindow s.call.rate.period s.convs[k]) s else s

/-! ### QUEUE_SET and STATS_GET (R96, R98) -/

/-- Queue `q` with new levels. -/
def RxQueue.withLevels (start setPoint : Nat) (q : RxQueue) : RxQueue := { q with startLevel := start, setPoint := setPoint }

/-- QUEUE_SET (R96). -/
def queueSet (body : List Byte) (s : State) : Answer :=
  match body with
  | [slot, start, point] =>
    let a := clampNat 1 6 start.toNat
    let b := clampNat 1 6 point.toNat
    let clamped := a != start.toNat || b != point.toNat
    if slot.toNat = 4 then answerClamped clamped [] { s with queues := s.queues.map (RxQueue.withLevels a b) }
    else
      match indexOfByte 4 slot with
      | some k => answerClamped clamped [] (s.setQueue k (s.queues[k].withLevels a b))
      | none => refuse .badArg s
  | _ => refuse .badLength s

/-- The four bytes of a measured step; what a step of 2^32 or more shows is a free value (R178; DESIGN CHOICE, log entry 10). -/
def measuredBytes (m : Nat) : List Byte := if m < 4294967296 then bytes4 m else bytes4 (Config.oversizeStep m).toNat

/-- The statistics body after its status byte (Table 11.5). -/
def statsBytes (q : RxQueue) (c : Converter) : List Byte :=
  [q.stats.acceptedArrivals, q.stats.duplicates, q.stats.lates, q.stats.overruns, q.stats.flushed, q.stats.consumed,
    q.stats.retriedArrivals, q.stats.retryDenials, q.stats.gapFilled, q.stats.starvedBlocks, q.stats.resyncs,
    q.stats.discontinuities, q.stats.downMisses, q.stats.windowsAccepted, q.stats.windowsRejected, c.baseStep].flatMap bytes4
    ++ measuredBytes c.lastMeasured ++ [BitVec.ofNat 8 q.entries.length, q.state.code]

/-- STATS_GET (R98). -/
def statsGet (body : List Byte) (s : State) : Answer :=
  match body with
  | [slot] =>
    match indexOfByte 4 slot with
    | some k => answerOk (statsBytes s.queues[k] s.convs[k]) s
    | none => refuse .badArg s
  | _ => refuse .badLength s

/-- The command QUEUE_SET. -/
def execQueueSet (tag : Byte) (body : List Byte) (s : State) : Host.Outcome State Fault Refusal :=
  .next (takeRequest 0x10 tag body (queueSet body) s)

/-- The command STATS_GET. -/
def execStatsGet (tag : Byte) (body : List Byte) (s : State) : Host.Outcome State Fault Refusal :=
  .next (takeRequest 0x17 tag body (statsGet body) s)

/-- The command FILL_TIMEOUT (R90). -/
def execFillTimeout (k : SlotId) (s : State) : Host.Outcome State Fault Refusal := .next (fillTimeout k s)

/-- The command DRIFT_WINDOW_CLOSE (R104). -/
def execDriftWindowClose (k : SlotId) (s : State) : Host.Outcome State Fault Refusal := .next (driftWindowClose k s)

end Sys2Proof.Machine
end

