-- ==== Sys2Proof/Machine/Voices.lean ====
section
/-! DEFINITION. Voices, election and level watches (chapter 8). -/

namespace Sys2Proof.Machine

open Sys2Proof

/-- The outputs of the four streams for a block; an absent stream has none (R118). -/
abbrev StreamOutputs := Vector (Option (List Sample)) 4

/-! ### Forming a voice (R142, R143) -/

/-- q: the CONCEALED outcomes a quality window holds (R143). -/
def concealedCount (window : List BlockOutcome) : Nat := window.count .concealed

/-- A member present in a block: its slot and its output (R142). -/
structure Present where
  slot : SlotId
  samples : List Sample

/-- The member of a member field, when it is present in the block. -/
def presentMember (outputs : StreamOutputs) (member : Option SlotId) : Option Present :=
  match member with
  | none => none
  | some k =>
    match outputs[k] with
    | none => none
    | some samples => some ⟨k, samples⟩

/-- What forming a voice gives: its record after, its samples when it is present, and the code of a VOICE_SWITCH if one is
raised. -/
structure Formed where
  voice : Voice
  samples : Option (List Sample)
  switch : Option Byte

/-- The winner cleared (R142). -/
def Voice.withoutWinner (v : Voice) : Voice := { v with winner := none, sinceSwitch := 0 }

/-- The winner set anew (R143). -/
def Voice.withWinner (k : SlotId) (v : Voice) : Voice := { v with winner := some k, sinceSwitch := 0 }

/-- The winner stands for one more election (R143). -/
def Voice.winnerStands (v : Voice) : Voice := { v with sinceSwitch := saturatingSucc 65535 v.sinceSwitch }

/-- The election with one member present: it wins at once (R143, case 1). -/
def electOne (m : Present) (v : Voice) : Formed :=
  match v.winner with
  | none => ⟨v.withWinner m.slot, some m.samples, none⟩
  | some w =>
    if w = m.slot then ⟨v.winnerStands, some m.samples, none⟩ else ⟨v.withWinner m.slot, some m.samples, some 2⟩

/-- Whether the winner `w` loses to the other member: it concealed at least H blocks more, and the hold time has run (R143). -/
def losesTo (queues : Vector RxQueue 4) (w other : SlotId) (v : Voice) : Bool :=
  concealedCount queues[other].quality + v.hysteresis ≤ concealedCount queues[w].quality
    && v.holdTime ≤ v.winnerStands.sinceSwitch

/-- The election with both members present (R143, cases 2 and 3). -/
def electBoth (queues : Vector RxQueue 4) (l r : Present) (v : Voice) : Formed :=
  match v.winner with
  | none => ⟨v.withWinner l.slot, some l.samples, none⟩
  | some w =>
    let other := if w = r.slot then l else r
    let standing := if w = r.slot then r else l
    if losesTo queues w other.slot v then ⟨v.withWinner other.slot, some other.samples, some 1⟩
    else ⟨v.winnerStands, some standing.samples, none⟩

/-- The mean of two samples with round half up (R142). -/
def meanSample (a b : Sample) : Sample := BitVec.ofInt 16 ((a.toInt + b.toInt + 1) / 2)

/-- The voice of a numbered set whose members present are `l` and `r` (R142). -/
def formSet (queues : Vector RxQueue 4) (l r : Option Present) (v : Voice) : Formed :=
  match l, r with
  | none, none => ⟨v, none, none⟩
  | some a, none => if v.mode = .best then electOne a v else ⟨v.withoutWinner, some a.samples, none⟩
  | none, some b => if v.mode = .best then electOne b v else ⟨v.withoutWinner, some b.samples, none⟩
  | some a, some b =>
    match v.mode with
    | .both => ⟨v.withoutWinner, some (List.zipWith meanSample a.samples b.samples), none⟩
    | .left => ⟨v.withoutWinner, some a.samples, none⟩
    | .right => ⟨v.withoutWinner, some b.samples, none⟩
    | .best => electBoth queues a b v

/-- The voice of a block, formed from its members' outputs and their quality windows (R142, R143). -/
def formVoice (queues : Vector RxQueue 4) (outputs : StreamOutputs) (v : Voice) : Formed :=
  match v.boundTo with
  | none => ⟨v, none, none⟩
  | some .mono =>
    match presentMember outputs v.mono with
    | none => ⟨v, none, none⟩
    | some m => ⟨v.withoutWinner, some m.samples, none⟩
  | some (.numbered _) => formSet queues (presentMember outputs v.left) (presentMember outputs v.right) v

/-- VOICE_SWITCH with a code, if there is one (R144). -/
def raiseSwitch (i : VoiceId) (code : Option Byte) (s : State) : State :=
  match code with
  | some c => raiseAt Source.voiceSwitch c i s
  | none => s

/-- Voice `i` formed for the block. -/
def formVoiceAt (i : VoiceId) (outputs : StreamOutputs) (s : State) : State :=
  raiseSwitch i (formVoice s.queues outputs s.voices[i]).switch
    (s.setVoice i (formVoice s.queues outputs s.voices[i]).voice)

/-! ### Members (R138, R139) -/

/-- Whether a slot is a member of a voice. -/
def Voice.hasMember (k : SlotId) (v : Voice) : Bool := v.left == some k || v.right == some k || v.mono == some k

/-- The member fields without slot `k`. -/
def Voice.without (k : SlotId) (v : Voice) : Voice :=
  { v with
    left := if v.left = some k then none else v.left
    right := if v.right = some k then none else v.right
    mono := if v.mono = some k then none else v.mono }

/-- A member that a voice has: LEFT, else RIGHT, else MONO. -/
def Voice.anyMember (v : Voice) : Option SlotId := v.left.or (v.right.or v.mono)

/-- The removal of a member: the last one frees the voice; a winner's removal makes the remaining member the winner, with
VOICE_SWITCH code ABSENCE (R139). -/
def Voice.remove (k : SlotId) (v : Voice) : Voice × Option Byte :=
  if v.hasMember k then
    match (v.without k).anyMember with
    | none => ({ (v.without k).withoutWinner with boundTo := none }, none)
    | some m => if v.winner = some k then ((v.without k).withWinner m, some 2) else (v.without k, none)
  else (v, none)

/-- Slot `k` removed from voice `i`, if it is a member (R139). -/
def removeFromVoice (i : VoiceId) (k : SlotId) (s : State) : State :=
  raiseSwitch i (s.voices[i].remove k).2 (s.setVoice i (s.voices[i].remove k).1)

/-- Slot `k` removed from its voice (R139). -/
def removeMember (k : SlotId) (s : State) : State := removeFromVoice 1 k (removeFromVoice 0 k s)

/-- The set that an earbud's voice carries. -/
def Place.voiceSet (p : Place) : VoiceSet :=
  match p with
  | .left id => .numbered id
  | .right id => .numbered id
  | .mono => .mono

/-- Slot `k` as the member of a place's role. -/
def Voice.addMember (p : Place) (k : SlotId) (v : Voice) : Voice :=
  match p with
  | .left _ => { v with left := some k }
  | .right _ => { v with right := some k }
  | .mono => { v with mono := some k }

/-- Whether a BOUND voice has the place's set and no member of its role; never for MONO (R138, step 2). -/
def awaits (p : Place) (v : Voice) : Bool :=
  match p with
  | .left id => v.boundTo == some (.numbered id) && v.left == none
  | .right id => v.boundTo == some (.numbered id) && v.right == none
  | .mono => false

/-- The voice a new stream takes: its set's voice, else the lowest FREE voice, else none (R138). -/
def voiceFor (p : Place) (voices : Vector Voice 2) : Option VoiceId :=
  ((List.finRange 2).find? fun i => awaits p voices[i]).or ((List.finRange 2).find? fun i => voices[i].boundTo == none)

/-- The voice record once slot `k` is bound to it: a FREE voice becomes BOUND with no winner (R138). -/
def Voice.bindMember (p : Place) (k : SlotId) (v : Voice) : Voice :=
  if v.boundTo = none then ({ v.withoutWinner with boundTo := some p.voiceSet }).addMember p k else v.addMember p k

/-- The binding of slot `k`, whose earbud declares `d`, to a voice (R138). -/
def bindVoice (k : SlotId) (d : Declared) (s : State) : State :=
  if d.microphone then
    match voiceFor d.place s.voices with
    | some i => s.setVoice i (s.voices[i].bindMember d.place k)
    | none => s
  else s

/-- Whether a stream that needs a voice finds none (R138, step 4). -/
def findsNoVoice (d : Declared) (s : State) : Bool := d.microphone && (voiceFor d.place s.voices).isNone

/-- VOICE_SET: the winner stands, also where the mode becomes BEST before a block has taken it out of use (R141; DEDUCED, log
entry 38). -/
def voiceSet (body : List Byte) (s : State) : Answer :=
  match body with
  | [voice, mode, hyst, hold] =>
    match indexOfByte 2 voice, voiceModeOfByte mode with
    | some i, some m =>
      let h := clampNat 1 8 hyst.toNat
      let t := clampNat 1 64 hold.toNat
      answerClamped (h != hyst.toNat || t != hold.toNat) []
        (s.setVoice i { s.voices[i] with mode := m, hysteresis := h, holdTime := t })
    | _, _ => refuse .badArg s
  | _ => refuse .badLength s

/-! ### Level watches (R147, R148, R150) -/

/-- The peak of a block: its largest magnitude (R147). -/
def peakOf (block : List Sample) : Nat := block.foldl (fun p x => max p x.toInt.natAbs) 0

/-- Whether a block meets a watch's condition (R147). -/
def Watch.meets (block : List Sample) (w : Watch) : Bool :=
  match w.kind with
  | .off => false
  | .peakOver => w.level ≤ peakOf block
  | .quiet => peakOf block < w.level

/-- Whether a watch is evaluated: its kind is not OFF and FIRED is clear (R147). -/
def Watch.evaluated (w : Watch) : Bool := w.kind != .off && !w.fired

/-- The run counter after a block (R147). -/
def Watch.runAfter (block : List Sample) (w : Watch) : Nat := if w.meets block then w.run + 1 else 0

/-- A watch after a block handed to it: it fires when its run reaches its count (R147, R148). -/
def Watch.after (block : List Sample) (w : Watch) : Watch :=
  if w.evaluated then { w with run := w.runAfter block, fired := w.runAfter block == w.count } else w

/-- A sink's final block handed to its watch (R132, R147, R148). -/
def handToWatch (j : SinkId) (block : List Sample) (s : State) : State :=
  if s.watches[j].evaluated && s.watches[j].runAfter block == s.watches[j].count then
    raiseAt Source.watch s.watches[j].kind.code j (s.setWatch j (s.watches[j].after block))
  else s.setWatch j (s.watches[j].after block)

/-- WATCH_SET (R150). -/
def watchSet (body : List Byte) (s : State) : Answer :=
  match body with
  | [sink, kind, low, high, count] =>
    match indexOfByte 5 sink, watchKindOfByte kind with
    | some j, some k =>
      let level := clampNat 0 32767 (number2 low high)
      let n := clampNat 1 255 count.toNat
      answerClamped (level != number2 low high || n != count.toNat) []
        (s.setWatch j { kind := k, level := level, count := n, run := 0, fired := false })
    | _, _ => refuse .badArg s
  | _ => refuse .badLength s

/-- The command VOICE_SET. -/
def execVoiceSet (tag : Byte) (body : List Byte) (s : State) : Host.Outcome State Fault Refusal :=
  .next (takeRequest 0x14 tag body (voiceSet body) s)

/-- The command WATCH_SET. -/
def execWatchSet (tag : Byte) (body : List Byte) (s : State) : Host.Outcome State Fault Refusal :=
  .next (takeRequest 0x15 tag body (watchSet body) s)

end Sys2Proof.Machine
end

