-- ==== Sys2Proof/Machine/Mix.lean ====
section
/-! DEFINITION. The Mix Matrix (chapter 7): the mix of a block, the banks and their commit, and the four mix requests. -/

namespace Sys2Proof.Machine

open Sys2Proof

/-! ### The commit (R124, R125) -/

/-- The shadow bank is copied whole into the active bank, and no commit is pending (R124, R125). -/
def MixState.copied (m : MixState) : MixState := { m with active := m.shadow, commitPending := false }

/-- A copy made outside any block: COMMIT_DONE with code AT_ONCE and value 0 (R124). -/
def commitAtOnce (s : State) : State := raise Source.commitDone 1 0 { s with mix := s.mix.copied }

/-- The copy that the completion of a closing makes of a commit still pending (R14, R124). -/
def commitAtClosing (s : State) : State := if s.mix.commitPending then commitAtOnce s else s

/-- The beginning of the mix of a block: a pending commit is copied, with code AT_BLOCK and the block's number (R125). -/
def commitAtBlock (s : State) : State :=
  if s.mix.commitPending then raise Source.commitDone 2 s.call.blockNumber { s with mix := s.mix.copied } else s

/-! ### The mix of a sink (R127 to R131) -/

/-- A source present in a block with its gain into a sink. -/
structure Term where
  samples : List Sample
  gain : Nat

/-- A source's term when the source is present; an absent source adds nothing (R127). -/
def termOf (source : Option (List Sample)) (gain : Nat) : List Term :=
  match source with
  | some samples => [⟨samples, gain⟩]
  | none => []

/-- The accumulator of sample `i` (R128, step 1; DESIGN CHOICE, log entry 28). -/
def accumulate (terms : List Term) (i : Nat) : Int := (terms.map fun t => (t.samples.getD i 0).toInt * (t.gain : Int)).sum

/-- The accumulator divided by 4,096 with round half up (R128, step 2). -/
def mixedSample (terms : List Term) (i : Nat) : Int := roundHalfUp (accumulate terms i) 4096

/-- The clamp of a sample (R128, step 3). -/
def clampSample (x : Int) : Sample := BitVec.ofInt 16 (clampInt (-32768) 32767 x)

/-- Whether the clamp changes a sample (R128, step 3). -/
def isClamped (x : Int) : Bool := clampInt (-32768) 32767 x != x

/-- The N samples of a sink whose mute is off (R128). -/
def mixedBlock (n : Nat) (terms : List Term) : List Sample := (List.range n).map fun i => clampSample (mixedSample terms i)

/-- The clamped samples of a sink's block (R128, R130). -/
def clampedIn (n : Nat) (terms : List Term) : Nat := (List.range n).countP fun i => isClamped (mixedSample terms i)

/-- The clamped samples of a block counted, and SINK_CLAMP raised once if there are any and the sink's clamp report is on
(R130). -/
def noteClamps (j : SinkId) (count : Nat) (s : State) : State :=
  let counted := { s with mix := { s.mix with clampCount := s.mix.clampCount.set j (bumpBy count s.mix.clampCount[j]) } }
  if count = 0 then s else if s.mix.clampReport[j] then raiseAt Source.sinkClamp 1 j counted else counted

/-- The block of a sink before any hold: N zeros and no clamps when its mute is on (R131), else mixed (R128). -/
def sinkBlock (n : Nat) (j : SinkId) (terms : List Term) (s : State) : List Sample :=
  if s.mix.active.mutes[j] then List.replicate n 0 else mixedBlock n terms

/-- The clamp accounting of a sink's block; a muted sink has no clamps (R130, R131). -/
def accountClamps (n : Nat) (j : SinkId) (terms : List Term) (s : State) : State :=
  if s.mix.active.mutes[j] then s else noteClamps j (clampedIn n terms) s

/-- Whether UP is replaced by zeros: the call is HELD, or LOST with resume-to HELD (R133). -/
def uplinkHeld (c : CallRecord) : Bool :=
  match c.state with
  | .held => true
  | .lost => c.resumeTo == .held
  | _ => false

/-- The sources of a block: DOWN, the streams' outputs, and the voices (R127). -/
structure Sources where
  down : List Sample
  outputs : StreamOutputs
  v0 : Option (List Sample)
  v1 : Option (List Sample)

/-- The terms of UP (Table 7.1, R127). -/
def upTerms (src : Sources) (b : Bank) : List Term :=
  termOf src.v0 b.up.v0 ++ termOf src.v1 b.up.v1 ++ termOf (some src.down) b.up.down

/-- The terms of E0..E3 (Table 7.1, R127). -/
def earTerms (src : Sources) (k : SlotId) (b : Bank) : List Term :=
  termOf src.v0 b.ear[k].v0 ++ termOf src.v1 b.ear[k].v1 ++ termOf (some src.down) b.ear[k].down
    ++ termOf src.outputs[k] b.ear[k].own

/-- The sink number of Ek (Table 7.1). -/
def earSink (k : SlotId) : SinkId := k.succ

/-- The final block of UP (R128, R131, R133). -/
def upBlock (n : Nat) (src : Sources) (s : State) : List Sample :=
  if uplinkHeld s.call then List.replicate n 0 else sinkBlock n 0 (upTerms src s.mix.active) s

/-- UP formed for the block: its clamps counted and reported, and its final block handed to its watch (R130, R132, R133). -/
def formUp (n : Nat) (src : Sources) (s : State) : State :=
  handToWatch 0 (upBlock n src s) (accountClamps n 0 (upTerms src s.mix.active) s)

/-- A block appended to slot `k`'s downlink store; a full store first loses its oldest block, with DOWN_SLIP code OVERWRITE
(R74). -/
def appendToStore (k : SlotId) (b : Block) (s : State) : State :=
  if 2 ≤ s.stores[k].length then
    raiseAt Source.downSlip 1 k (s.setStore k (s.stores[k].tail ++ [b]))
  else s.setStore k (s.stores[k] ++ [b])

/-- Ek formed for the block when slot `k` is STREAMING: clamps, the downlink store, the watch (R74, R132). -/
def formEar (n : Nat) (src : Sources) (k : SlotId) (s : State) : State :=
  if s.slots[k].state = .streaming then
    handToWatch (earSink k) (sinkBlock n (earSink k) (earTerms src k s.mix.active) s)
      (appendToStore k ⟨s.call.blockNumber, sinkBlock n (earSink k) (earTerms src k s.mix.active) s⟩
        (accountClamps n (earSink k) (earTerms src k s.mix.active) s))
  else s

/-- The sinks of a block, UP first (R132). -/
def formSinks (n : Nat) (src : Sources) (s : State) : State := forEachSlot (formEar n src) (formUp n src s)

/-! ### The requests -/

/-- An item of MIX_SET written into a bank, its gain clamped to 0..16,384 (R123). -/
def Bank.write (item : MixItem) (b : Bank) : Bank :=
  match item with
  | .upCell .v0 g => { b with up := { b.up with v0 := clampNat 0 16384 g } }
  | .upCell .v1 g => { b with up := { b.up with v1 := clampNat 0 16384 g } }
  | .upCell .down g => { b with up := { b.up with down := clampNat 0 16384 g } }
  | .upCell .own _ => b
  | .earCell k .v0 g => { b with ear := b.ear.set k { b.ear[k] with v0 := clampNat 0 16384 g } }
  | .earCell k .v1 g => { b with ear := b.ear.set k { b.ear[k] with v1 := clampNat 0 16384 g } }
  | .earCell k .down g => { b with ear := b.ear.set k { b.ear[k] with down := clampNat 0 16384 g } }
  | .earCell k .own g => { b with ear := b.ear.set k { b.ear[k] with own := clampNat 0 16384 g } }
  | .mute j on => { b with mutes := b.mutes.set j on }

/-- Whether the clamp changes an item's gain (R123). -/
def MixItem.clamps (item : MixItem) : Bool :=
  match item with
  | .upCell _ g => 16384 < g
  | .earCell _ _ g => 16384 < g
  | .mute _ _ => false

/-- MIX_SET (R122, R123). -/
def mixSet (body : List Byte) (s : State) : Answer :=
  if body.length % 4 = 0 ∧ 4 ≤ body.length ∧ body.length ≤ 96 then
    match mixItemsOfBody body with
    | some items =>
      answerClamped (items.any MixItem.clamps) []
        { s with mix := { s.mix with shadow := items.foldl (fun b item => b.write item) s.mix.shadow } }
    | none => refuse .badArg s
  else refuse .badLength s

/-- Whether a commit is copied at once: no block events run in IDLE and OPENING (R124). -/
def commitsAtOnce (c : CallState) : Bool :=
  match c with
  | .idle => true
  | .opening => true
  | _ => false

/-- MIX_COMMIT (R124). -/
def mixCommit (body : List Byte) (s : State) : Answer :=
  match body with
  | [] =>
    if commitsAtOnce s.call.state then answerOk [] (commitAtOnce s)
    else answerOk [] { s with mix := { s.mix with commitPending := true } }
  | _ => refuse .badLength s

/-- The nineteen gains of a bank, in the order of Table 7.1 (R126). -/
def Bank.gains (b : Bank) : List Nat :=
  [b.up.v0, b.up.v1, b.up.down] ++ b.ear.toList.flatMap fun r => [r.v0, r.v1, r.down, r.own]

/-- The five mutes of a bank as a mute set, UP the member 0 (R126, R173). -/
def Bank.muteSet (b : Bank) : Byte :=
  BitVec.ofNat 8 (((List.finRange 5).map fun j => if b.mutes[j] then 2 ^ j.val else 0).sum)

/-- The reply of MIX_GET after its status: gains, mutes, the commit pending flag, and each sink's clamp report and clamp count
(R126; DEDUCED, log entry 18). -/
def mixBytes (b : Bank) (m : MixState) : List Byte :=
  b.gains.flatMap bytes2 ++ [b.muteSet, switchByte m.commitPending]
    ++ (List.finRange 5).flatMap fun j => switchByte m.clampReport[j] :: bytes4 m.clampCount[j]

/-- MIX_GET (R126). -/
def mixGet (body : List Byte) (s : State) : Answer :=
  match body with
  | [bank] =>
    match bank.toNat with
    | 0 => answerOk (mixBytes s.mix.active s.mix) s
    | 1 => answerOk (mixBytes s.mix.shadow s.mix) s
    | _ => refuse .badArg s
  | _ => refuse .badLength s

/-- SINK_SET (R134). -/
def sinkSet (body : List Byte) (s : State) : Answer :=
  match body with
  | [sink, setting] =>
    match indexOfByte 5 sink, switchOfByte setting with
    | some j, some on => answerOk [] { s with mix := { s.mix with clampReport := s.mix.clampReport.set j on } }
    | _, _ => refuse .badArg s
  | _ => refuse .badLength s

/-- The command MIX_SET. -/
def execMixSet (tag : Byte) (body : List Byte) (s : State) : Host.Outcome State Fault Refusal :=
  .next (takeRequest 0x11 tag body (mixSet body) s)

/-- The command MIX_COMMIT. -/
def execMixCommit (tag : Byte) (body : List Byte) (s : State) : Host.Outcome State Fault Refusal :=
  .next (takeRequest 0x12 tag body (mixCommit body) s)

/-- The command MIX_GET. -/
def execMixGet (tag : Byte) (body : List Byte) (s : State) : Host.Outcome State Fault Refusal :=
  .next (takeRequest 0x13 tag body (mixGet body) s)

/-- The command SINK_SET. -/
def execSinkSet (tag : Byte) (body : List Byte) (s : State) : Host.Outcome State Fault Refusal :=
  .next (takeRequest 0x16 tag body (sinkSet body) s)

end Sys2Proof.Machine
end

