-- ==== Sys2Proof/Machine/Roster.lean ====
section
/-! DEFINITION. The earbud roster (chapter 2): its laws, its requests, and what it does for the Pairing Engine and the Air
Scheduler. -/

namespace Sys2Proof.Machine

open Sys2Proof

/-- The contents of an entry, in BONDED and IN_CALL (R19). -/
def RosterEntry.contents (e : RosterEntry) : Option Contents :=
  match e with
  | .free => none
  | .reserved => none
  | .bonded c => some c
  | .inCall c => some c

/-- The number of an entry's state (R26). -/
def RosterEntry.code (e : RosterEntry) : Byte :=
  match e with
  | .free => 0
  | .reserved => 1
  | .bonded _ => 2
  | .inCall _ => 3

/-- Whether an entry is IN_CALL. -/
def RosterEntry.isInCall (e : RosterEntry) : Bool :=
  match e with
  | .inCall _ => true
  | _ => false

/-- Whether an entry holds an address (R21). -/
def holdsAddress (a : Address) (e : RosterEntry) : Bool := e.contents.any fun c => c.declared.address == a

/-- Whether an entry holds a place: a set id with a role, never MONO (R21, R22). -/
def holdsPlace (p : Place) (e : RosterEntry) : Bool := p != .mono && e.contents.any fun c => c.declared.place == p

/-- Whether an address is held by an entry other than `target` (R24, check 5). -/
def addressHeldElsewhere (target : EntryId) (a : Address) (roster : Vector RosterEntry 8) : Bool :=
  (List.finRange 8).any fun i => i != target && holdsAddress a roster[i]

/-- Whether a place is held by an entry other than `target` (R24, check 6). -/
def placeHeldElsewhere (target : EntryId) (p : Place) (roster : Vector RosterEntry 8) : Bool :=
  (List.finRange 8).any fun i => i != target && holdsPlace p roster[i]

/-- The entry that holds an address. -/
def entryAtAddress (a : Address) (roster : Vector RosterEntry 8) : Option EntryId :=
  (List.finRange 8).find? fun i => holdsAddress a roster[i]

/-! ### The requests -/

/-- Whether an entry may be written: it is FREE or BONDED (R24, check 3). -/
def RosterEntry.writable (e : RosterEntry) : Bool :=
  match e with
  | .free => true
  | .reserved => false
  | .bonded _ => true
  | .inCall _ => false

/-- ROSTER_PUT (R24, R25). -/
def rosterPut (body : List Byte) (s : State) : Answer :=
  if body.length = 29 then
    match indexOfByte 8 (byteAt body 0) with
    | none => refuse .badArg s
    | some i =>
      if s.roster[i].writable then
        match contentsOfBody body with
        | none => refuse .badArg s
        | some c =>
          if addressHeldElsewhere i c.declared.address s.roster then refuse .conflict s
          else if placeHeldElsewhere i c.declared.place s.roster then refuse .conflict s
          else answerOk [] (s.setEntry i (.bonded c))
      else refuse .badState s
  else refuse .badLength s

/-- The reply of ROSTER_GET after its status (R26). -/
def entryBytes (e : RosterEntry) : List Byte :=
  e.code :: match e.contents with
    | some c => c.bytes
    | none => []

/-- ROSTER_GET (R26). -/
def rosterGet (body : List Byte) (s : State) : Answer :=
  match body with
  | [index] =>
    match indexOfByte 8 index with
    | some i => answerOk (entryBytes s.roster[i]) s
    | none => refuse .badArg s
  | _ => refuse .badLength s

/-- ROSTER_DROP (R27). -/
def rosterDrop (body : List Byte) (s : State) : Answer :=
  match body with
  | [index] =>
    match indexOfByte 8 index with
    | some i =>
      match s.roster[i] with
      | .free => refuse .noEntry s
      | .reserved => refuse .badState s
      | .inCall _ => refuse .badState s
      | .bonded _ => answerOk [] (s.setEntry i .free)
    | none => refuse .badArg s
  | _ => refuse .badLength s

/-! ### For the Pairing Engine (R28, R29) -/

/-- The lowest-numbered FREE entry, which a reservation takes (R28). -/
def lowestFreeEntry (roster : Vector RosterEntry 8) : Option EntryId :=
  (List.finRange 8).find? fun i => roster[i] == .free

/-- The release of a reservation: the RESERVED entry becomes FREE (R28). -/
def releaseReservation (entry : Option EntryId) (s : State) : State :=
  match entry with
  | some i => s.setEntry i .free
  | none => s

/-- What the roster answers to a bind (R29). Malformed contents cannot be handed to it: their type has none. -/
inductive BindAnswer where
  | busy | conflict | rebonded (entry : EntryId) | bonded (entry : EntryId)
  deriving DecidableEq, Repr

/-- The roster's judgement of a bind of declared contents, with an entry reserved (R29). -/
def judgeBind (reserved : EntryId) (d : Declared) (roster : Vector RosterEntry 8) : BindAnswer :=
  match entryAtAddress d.address roster with
  | some i =>
    if roster[i].isInCall then .busy
    else if placeHeldElsewhere i d.place roster then .conflict
    else .rebonded i
  | none => if placeHeldElsewhere reserved d.place roster then .conflict else .bonded reserved

/-! ### For the Air Scheduler (R30) -/

/-- An entry marked IN_CALL; its contents stand (R30). -/
def RosterEntry.joined (e : RosterEntry) : RosterEntry :=
  match e with
  | .bonded c => .inCall c
  | other => other

/-- An entry marked BONDED again; its contents stand (R30). -/
def RosterEntry.left (e : RosterEntry) : RosterEntry :=
  match e with
  | .inCall c => .bonded c
  | other => other

/-- The contents of the entry that a stream slot refers to. -/
def slotContents (k : SlotId) (s : State) : Option Contents :=
  match s.slots[k].rosterIndex with
  | some i => s.roster[i].contents
  | none => none

/-- The command ROSTER_PUT. -/
def execRosterPut (tag : Byte) (body : List Byte) (s : State) : Host.Outcome State Fault Refusal :=
  .next (takeRequest 0x07 tag body (rosterPut body) s)

/-- The command ROSTER_GET. -/
def execRosterGet (tag : Byte) (body : List Byte) (s : State) : Host.Outcome State Fault Refusal :=
  .next (takeRequest 0x08 tag body (rosterGet body) s)

/-- The command ROSTER_DROP. -/
def execRosterDrop (tag : Byte) (body : List Byte) (s : State) : Host.Outcome State Fault Refusal :=
  .next (takeRequest 0x09 tag body (rosterDrop body) s)

end Sys2Proof.Machine
end

