-- ==== Sys2Proof/Machine/Calls.lean ====
section
/-! DEFINITION. Call states (chapter 1): the changes of the call state, the freeing of slots, the closing, and the five call
requests. -/

namespace Sys2Proof.Machine

open Sys2Proof

/-- A change of the call state: one CALL_STATE occurrence with the new state as code and the close reason as it stands after the
change as value (R17). -/
def changeCall (c : CallRecord) (s : State) : State :=
  raise Source.callState c.state.code (c.closeReason.code.zeroExtend 32) { s with call := c }

/-- The port STOPPED with the values of R151: the reset values, except the last block event time, and nothing driven (R151,
R158; DEDUCED, log entry 31). -/
def PortRecord.stop (p : PortRecord) : PortRecord := { PortRecord.reset with lastBlockEventTime := p.lastBlockEventTime }

/-! ### Slots (R59, R66) -/

/-- What leaving STREAMING does beside the slot's change of state: the queue flushed, the converter record cleared, the voice left,
the store emptied, last sent and retry candidate cleared (R66). -/
def leaveStreaming (k : SlotId) (s : State) : State :=
  removeMember k
    ((((s.setQueue k s.queues[k].flush).setConv k s.convs[k].leaveStreaming).setStore k []).setSlot k
      { s.slots[k] with lastSent := none, retryCandidate := false })

/-- A STREAMING slot enters LEAVING (R66, R67). -/
def enterLeaving (k : SlotId) (s : State) : State :=
  let left := leaveStreaming k s
  left.setSlot k { left.slots[k] with state := .leaving, intervalCount := 0, carried := .nothing }

/-- The slot's roster entry marked BONDED (R59). -/
def releaseEntry (entry : Option EntryId) (s : State) : State :=
  match entry with
  | some i => s.setEntry i s.roster[i].left
  | none => s

/-- A slot becomes FREE: its fields return to their values of Table 4.3, and its entry is BONDED (R59). -/
def releaseSlot (k : SlotId) (s : State) : State := (releaseEntry s.slots[k].rosterIndex s).setSlot k StreamSlot.reset

/-- JOIN_RESULT with a result and the slot index (R64). -/
def joinResult (result : Byte) (k : SlotId) (s : State) : State := raiseAt Source.joinResult result k s

/-! ### Closing (R13, R14) -/

/-- Whether every stream slot is FREE. -/
def allFree (s : State) : Bool := (List.finRange 4).all fun k => s.slots[k].state == .free

/-- The completion of a closing (R14). -/
def completeClosing (s : State) : State :=
  changeCall { s.call with state := .idle }
    (commitAtClosing
      { s with
        port := s.port.stop
        convs := s.convs.map (Converter.closed s.blockSamples)
        stores := Vector.replicate 4 [] })

/-- In CLOSING, the freeing of the last slot completes the closing (R14, R59). -/
def settleClosing (s : State) : State := if s.call.state = .closing ∧ allFree s then completeClosing s else s

/-- A slot becomes FREE, and the Call Controller is told (R59). -/
def freeSlot (k : SlotId) (s : State) : State := settleClosing (releaseSlot k s)

/-- What entry to CLOSING does to one slot (R13). -/
def closeSlot (k : SlotId) (s : State) : State :=
  match s.slots[k].state with
  | .free => s
  | .joining => joinResult 7 k (releaseSlot k s)
  | .streaming => enterLeaving k s
  | .leaving => s

/-- Entry to CLOSING with a close reason; it acts on the slots from 0 to 3, an order the spec does not give (R13; DESIGN CHOICE,
log entry 37). -/
def enterClosing (reason : CloseReason) (s : State) : State :=
  let closed := forEachSlot closeSlot s
  settleClosing (changeCall { closed.call with state := .closing, closeReason := reason } closed)

/-! ### The requests (R4, R8, R13, R18) -/

/-- An accepted CALL_OPEN: the record written, the port set to hunt, CALL_STATE raised (R4, R158). -/
def openCall (rate : CallRate) (pos : WordPosition) (order : ByteOrder) (loop : Loopback) (s : State) : State :=
  changeCall
    { s.call with
      state := .opening, rate := rate, wordPosition := pos, byteOrder := order, loopback := loop,
      closeReason := .none, freeRunCount := 0, openTime := s.air.timeBase }
    { s with port := { s.port with state := .hunting, reference := none, goodCount := 0 } }

/-- CALL_OPEN (R4). -/
def callOpen (body : List Byte) (s : State) : Answer :=
  match body with
  | [rate, position, order, loop] =>
    if s.call.state = .idle then
      match rateOfByte rate, wordPositionOfByte position, byteOrderOfByte order, loopbackOfByte loop with
      | some r, some p, some o, some l => answerOk [] (openCall r p o l s)
      | _, _, _, _ => refuse .badArg s
    else refuse .badState s
  | _ => refuse .badLength s

/-- CALL_HOLD (R8). -/
def callHold (body : List Byte) (s : State) : Answer :=
  match body with
  | [] =>
    match s.call.state with
    | .live => answerOk [] (changeCall { s.call with state := .held } s)
    | .held => answerOk [] s
    | .lost => answerOk [] { s with call := { s.call with resumeTo := .held } }
    | .idle => refuse .badState s
    | .opening => refuse .badState s
    | .closing => refuse .badState s
  | _ => refuse .badLength s

/-- CALL_RESUME (R8). -/
def callResume (body : List Byte) (s : State) : Answer :=
  match body with
  | [] =>
    match s.call.state with
    | .live => answerOk [] s
    | .held => answerOk [] (changeCall { s.call with state := .live } s)
    | .lost => answerOk [] { s with call := { s.call with resumeTo := .live } }
    | .idle => refuse .badState s
    | .opening => refuse .badState s
    | .closing => refuse .badState s
  | _ => refuse .badLength s

/-- The call leaves OPENING for IDLE with a close reason, and the hunt stops (R6, R7). -/
def abandonOpening (reason : CloseReason) (s : State) : State :=
  changeCall { s.call with state := .idle, closeReason := reason } { s with port := s.port.stop }

/-- CALL_CLOSE (R7, R13). -/
def callClose (body : List Byte) (s : State) : Answer :=
  match body with
  | [] =>
    match s.call.state with
    | .idle => refuse .badState s
    | .opening => answerOk [] (abandonOpening .byRequest s)
    | .live => answerOk [] (enterClosing .byRequest s)
    | .held => answerOk [] (enterClosing .byRequest s)
    | .lost => answerOk [] (enterClosing .byRequest s)
    | .closing => answerOk [] s
  | _ => refuse .badLength s

/-- The reply of CALL_GET after its status, 19 bytes (R18). -/
def callBytes (s : State) : List Byte :=
  [s.call.state.code, s.call.rate.code, s.call.resumeTo.code, s.call.closeReason.code]
    ++ bytes4 s.call.blockNumber.toNat ++ bytes4 s.call.freeRunCount
    ++ [s.call.wordPosition.code, s.call.byteOrder.code, s.call.loopback.code]
    ++ (List.finRange 4).map fun k => s.slots[k].state.code

/-- CALL_GET (R18). -/
def callGet (body : List Byte) (s : State) : Answer :=
  match body with
  | [] => answerOk (callBytes s) s
  | _ => refuse .badLength s

/-- Whether 8,000,000 ticks have passed in OPENING since the open time (R6). -/
def lockTimeoutDue (s : State) : Bool := s.call.state == .opening && 8000000 ≤ ticksSince s.call.openTime s

/-- The lock timeout, when it is due (R6). -/
def lockTimeout (s : State) : State := if lockTimeoutDue s then abandonOpening .noSync s else s

/-- The command CALL_OPEN. -/
def execCallOpen (tag : Byte) (body : List Byte) (s : State) : Host.Outcome State Fault Refusal :=
  .next (takeRequest 0x03 tag body (callOpen body) s)

/-- The command CALL_HOLD. -/
def execCallHold (tag : Byte) (body : List Byte) (s : State) : Host.Outcome State Fault Refusal :=
  .next (takeRequest 0x04 tag body (callHold body) s)

/-- The command CALL_RESUME. -/
def execCallResume (tag : Byte) (body : List Byte) (s : State) : Host.Outcome State Fault Refusal :=
  .next (takeRequest 0x05 tag body (callResume body) s)

/-- The command CALL_CLOSE. -/
def execCallClose (tag : Byte) (body : List Byte) (s : State) : Host.Outcome State Fault Refusal :=
  .next (takeRequest 0x06 tag body (callClose body) s)

/-- The command CALL_GET. -/
def execCallGet (tag : Byte) (body : List Byte) (s : State) : Host.Outcome State Fault Refusal :=
  .next (takeRequest 0x1B tag body (callGet body) s)

/-- The command LOCK_TIMEOUT: `elapsed` ticks pass, and the timeout is taken when it is due (R6). -/
def execLockTimeout (elapsed : Tick) (s : State) : Host.Outcome State Fault Refusal :=
  .next (lockTimeout (passTime elapsed s))

end Sys2Proof.Machine
end

