-- ==== Sys2Proof/Machine/CallPort.lean ====
section
/-! DEFINITION. The Call Port (chapter 9): the block event, syncs, lock and relock, sync loss and free-running. -/

namespace Sys2Proof.Machine

open Sys2Proof

/-! ### The block event (R118, R127, R155 step 2) -/

/-- The conversion of stream `k` for a block; a slot that is not STREAMING has none (R81). -/
def conversionOf (k : SlotId) (s : State) : Conversion :=
  if s.slots[k].state = .streaming then convertBlock s.blockSamples s.convs[k] s.queues[k]
  else ⟨s.convs[k], s.queues[k], none, false⟩

/-- Stream `k` converted, with QUEUE_STARVED when its queue starved in the block (R89). -/
def convertStream (k : SlotId) (s : State) : State :=
  let done := (s.setConv k (conversionOf k s).conv).setQueue k (conversionOf k s).queue
  if (conversionOf k s).starved then raiseAt Source.queueStarved 1 k done else done

/-- The outputs of the four streams for the block (R116, R118). -/
def streamOutputs (s : State) : StreamOutputs := Vector.ofFn fun k => (conversionOf k s).output

/-- The four streams converted. -/
def convertStreams (s : State) : State := forEachSlot convertStream s

/-- The two voices formed from the outputs (R142). -/
def formVoices (outputs : StreamOutputs) (s : State) : State := formVoiceAt 1 outputs (formVoiceAt 0 outputs s)

/-- The sources of a block whose downlink is `down`: `s` is the state when the block event begins (R127). -/
def blockSources (down : List Sample) (s : State) : Sources where
  down := down
  outputs := streamOutputs s
  v0 := (formVoice (convertStreams s).queues (streamOutputs s) (convertStreams s).voices[0]).samples
  v1 := (formVoice (convertStreams s).queues (streamOutputs s) (convertStreams s).voices[1]).samples

/-- The state in which the mix of a block is taken: the streams converted, the voices formed, a pending commit copied (R118,
R125). -/
def beforeMix (s : State) : State := commitAtBlock (formVoices (streamOutputs s) (convertStreams s))

/-- The UP sink's final block, handed to the Call Port (R132). -/
def blockUplink (down : List Sample) (s : State) : List Sample := upBlock s.blockSamples (blockSources down s) (beforeMix s)

/-- The block number advances, because the event completes the block whose number it held (R12). -/
def advanceBlock (s : State) : State := { s with call := { s.call with blockNumber := s.call.blockNumber + 1 } }

/-- A block event handed on: streams, voices, mix, block number (R155, step 2). -/
def formBlock (down : List Sample) (s : State) : State :=
  advanceBlock (formSinks s.blockSamples (blockSources down s) (beforeMix s))

/-! ### Words (R152) -/

/-- The word at the call's place of the PCM frame (R152). -/
def wordAt (p : WordPosition) (first second : BitVec 16) : BitVec 16 :=
  match p with
  | .first => first
  | .second => second

/-- The exchange of word `i`: the downlink word is received, and the sample of uplink sending driven, 0 while it is absent
(R152; DESIGN CHOICE, log entry 16). -/
def exchangeWord (c : CallRecord) (first second : BitVec 16) (i : Nat) (p : PortRecord) : PortRecord :=
  { p with
    wordIndex := i
    downGathering := p.downGathering ++ [c.byteOrder.word (wordAt c.wordPosition first second)]
    driven := drivenAt c.wordPosition (c.byteOrder.word ((p.upSending.getD []).getD i 0)) }

/-! ### Blocks on syncs (R155) -/

/-- The words of the block to come: the UP sink, or with loopback PORT the downlink block just completed (R155, step 3). -/
def uplinkChoice (c : CallRecord) (down up : List Sample) : List Sample :=
  match c.loopback with
  | .off => up
  | .port => down

/-- The block event that a sync carries (R155, steps 1 to 4). -/
def syncBlockEvent (s : State) : State :=
  let down := s.port.downGathering
  let formed := formBlock down s
  { formed with
    port := { s.port with
      downGathering := [], downCompleted := some down,
      upSending := some (uplinkChoice s.call down (blockUplink down s)),
      wordIndex := 0, lastBlockEventTime := s.air.timeBase } }

/-- A sync taken in SYNCED: the next word of the block, or the block event and word 0 of the next block (R155). -/
def syncInStep (first second : BitVec 16) (s : State) : State :=
  let timed := { s with port := { s.port with reference := some s.air.timeBase } }
  if s.port.wordIndex + 1 < s.blockSamples then
    { timed with port := exchangeWord s.call first second (s.port.wordIndex + 1) timed.port }
  else
    let next := syncBlockEvent timed
    { next with port := exchangeWord s.call first second 0 next.port }

/-! ### Lock and relock (R5, R10, R153, R154) -/

/-- What the Call Controller makes of the lock event (R5, R10). -/
def takeLock (s : State) : State :=
  match s.call.state with
  | .opening => changeCall { s.call with state := .live, blockNumber := 0 } s
  | .lost => changeCall { s.call with state := s.call.resumeTo.callState, freeRunCount := 0 } s
  | _ => s

/-- The lock event: the sync begins a new block, whose word 0 is exchanged (R154). -/
def lockPort (first second : BitVec 16) (s : State) : State :=
  takeLock
    { s with
      port := exchangeWord s.call first second 0
        { s.port with
          state := .synced, reference := some s.air.timeBase, goodCount := 0, wordIndex := 0, freeRunDue := none,
          downGathering := [], downCompleted := none, upSending := none } }

/-- Whether a spacing is good: within P ± floor(P / 32) (R153). -/
def goodSpacing (r : CallRate) (spacing : Nat) : Bool :=
  r.period - r.period / 32 ≤ spacing && spacing ≤ r.period + r.period / 32

/-- The good count after a sync that is no lock event (R153). -/
def huntCount (s : State) : Nat :=
  match s.port.reference with
  | none => 0
  | some ref => if goodSpacing s.call.rate (ticksSince ref s) then s.port.goodCount + 1 else 0

/-- Whether a sync is the lock event: its good spacing finds the good count at 16 (R153). -/
def isLockEvent (s : State) : Bool :=
  s.port.reference.any fun ref => goodSpacing s.call.rate (ticksSince ref s) && 16 ≤ s.port.goodCount

/-- A sync taken while hunting: measured, or the lock event; a word of 0 is driven (R152, R153). -/
def huntSync (first second : BitVec 16) (s : State) : State :=
  if isLockEvent s then lockPort first second s
  else
    { s with
      port := { s.port with
        reference := some s.air.timeBase, goodCount := huntCount s, driven := drivenAt s.call.wordPosition 0 } }

/-- A frame sync at the present time base (R152, R153, R155, R158). -/
def takeSync (first second : BitVec 16) (s : State) : State :=
  match s.port.state with
  | .stopped => s
  | .hunting => huntSync first second s
  | .freeRunning => huntSync first second s
  | .synced => syncInStep first second s

/-! ### Sync loss and free-running (R9, R11, R156, R157) -/

/-- A free-running block event in LOST adds 1 to the free-run count, and the two-hundredth begins the closing (R11; DEDUCED, log
entry 12). -/
def countFreeRun (s : State) : State :=
  match s.call.state with
  | .lost =>
    if 200 ≤ s.call.freeRunCount + 1 then
      enterClosing .syncLost { s with call := { s.call with freeRunCount := 200 } }
    else { s with call := { s.call with freeRunCount := s.call.freeRunCount + 1 } }
  | _ => s

/-- N samples of 0, the DOWN of a free-running block (R157). -/
def silence (s : State) : List Sample := List.replicate s.blockSamples 0

/-- A free-running block event (R157, R11). -/
def freeRunBlock (s : State) : State :=
  let formed := formBlock (silence s) s
  countFreeRun
    { formed with
      port := { s.port with
        downCompleted := some (silence s), lastBlockEventTime := s.air.timeBase,
        freeRunDue := s.port.freeRunDue.map (· + 40000) } }

/-- What the Call Controller makes of the sync-loss event (R9). -/
def takeSyncLoss (s : State) : State :=
  match s.call.state with
  | .live => changeCall { s.call with state := .lost, resumeTo := .live, freeRunCount := 0 } s
  | .held => changeCall { s.call with state := .lost, resumeTo := .held, freeRunCount := 0 } s
  | _ => s

/-- The port as sync loss leaves it before any block event (R156). -/
def PortRecord.lose (p : PortRecord) : PortRecord :=
  { p with
    state := .freeRunning, goodCount := 0, downGathering := [], upSending := none,
    freeRunDue := some (p.lastBlockEventTime + 40000) }

/-- Free-run due set to 40,000 ticks from now, where it has passed twice at the declaration (R156). -/
def postponeFreeRun (s : State) : State :=
  { s with port := { s.port with freeRunDue := some (s.air.timeBase + 40000) } }

/-- The declaration of sync loss: the call is told, and a free-running event already due is taken in the same event (R156;
DEDUCED, log entry 11). -/
def declareSyncLoss (s : State) : State :=
  let lost := takeSyncLoss { s with port := s.port.lose }
  if 80000 ≤ ticksSince s.port.lastBlockEventTime s then postponeFreeRun (freeRunBlock lost)
  else if 40000 ≤ ticksSince s.port.lastBlockEventTime s then freeRunBlock lost
  else lost

/-- Whether 32 × P ticks have passed since the reference without a sync (R156). -/
def syncLossDue (s : State) : Bool :=
  s.port.state == .synced && s.port.reference.any fun ref => 32 * s.call.rate.period ≤ ticksSince ref s

/-- Sync loss, when it is due (R156). -/
def syncLoss (s : State) : State := if syncLossDue s then declareSyncLoss s else s

/-- Whether the time base has reached free-run due, which lies after the last block event (R157). -/
def freeRunReached (s : State) : Bool :=
  s.port.state == .freeRunning
    && s.port.freeRunDue.any fun due => (due - s.port.lastBlockEventTime).toNat ≤ ticksSince s.port.lastBlockEventTime s

/-- The free-running block event, when it is due (R157). -/
def freeRunningBlockEvent (s : State) : State := if freeRunReached s then freeRunBlock s else s

/-- The command SYNC: `elapsed` ticks pass, and a frame sync is taken. -/
def execSync (elapsed : Tick) (first second : BitVec 16) (s : State) : Host.Outcome State Fault Refusal :=
  .next (takeSync first second (passTime elapsed s))

/-- The command SYNC_LOSS: `elapsed` ticks pass, and sync loss is declared when it is due. -/
def execSyncLoss (elapsed : Tick) (s : State) : Host.Outcome State Fault Refusal := .next (syncLoss (passTime elapsed s))

/-- The command FREE_RUNNING_BLOCK_EVENT: `elapsed` ticks pass, and the event is taken when it is due. -/
def execFreeRunningBlockEvent (elapsed : Tick) (s : State) : Host.Outcome State Fault Refusal :=
  .next (freeRunningBlockEvent (passTime elapsed s))

end Sys2Proof.Machine
end

