-- ==== Sys2Proof/Machine/Air.lean ====
section
/-! DEFINITION. The air interval (chapter 4): joining and leaving, the frames of streams, the spare slots, the downlink slots, and
supervision. -/

namespace Sys2Proof.Machine

open Sys2Proof

/-! ### Frames (R56, R57) -/

/-- The address of the roster entry that a stream slot refers to. -/
def slotAddress (k : SlotId) (s : State) : Option Address := (slotContents k s).map fun c => c.declared.address

/-- Whether a frame is addressed to the part and comes from slot `k`'s earbud (R56). -/
def fromSlotEarbud (k : SlotId) (h : AirHeader) (s : State) : Bool :=
  h.destination == Config.partAddress && slotAddress k s == some h.source

/-- A frame the part sends in the slot in progress. -/
def sendFrame (destination : Address) (payload : AirPayload) (s : State) : State :=
  { s with air := { s.air with sent := some ⟨destination, Config.partAddress, payload⟩ } }

/-- A frame sent to slot `k`'s earbud (DESIGN CHOICE, log entry 28). -/
def sendToSlot (k : SlotId) (payload : AirPayload) (s : State) : State :=
  sendFrame ((slotAddress k s).getD 0) payload s

/-- The use of the slot in progress. -/
def setUse (u : SlotUse) (s : State) : State := { s with air := { s.air with use := u } }

/-- Whether an UP is well formed: N samples present exactly when NO_MIC is clear (R57). -/
def upWellFormed (n : Nat) (f : UpFrame) : Bool :=
  match f.samples with
  | some samples => !f.noMic && samples.length == n
  | none => f.noMic

/-! ### Joining (R60 to R64) -/

/-- The lowest-numbered FREE stream slot. -/
def lowestFreeSlot (slots : Vector StreamSlot 4) : Option SlotId :=
  (List.finRange 4).find? fun k => slots[k].state == .free

/-- An accepted EAR_JOIN: the slot taken, the entry marked IN_CALL, a fresh challenge drawn (R60). -/
def startJoin (k : SlotId) (i : EntryId) (s : State) : State :=
  countDraw
    ((s.setEntry i s.roster[i].joined).setSlot k
      { StreamSlot.reset with
        state := .joining, rosterIndex := some i, challenge := some (Config.freshChallenge s.draws) })

/-- Whether earbuds may join: the call is LIVE or HELD (R3, R60). -/
def admitsEarbuds (c : CallState) : Bool :=
  match c with
  | .live => true
  | .held => true
  | _ => false

/-- EAR_JOIN (R60). -/
def earJoin (body : List Byte) (s : State) : Answer :=
  match body with
  | [index] =>
    if admitsEarbuds s.call.state then
      match indexOfByte 8 index with
      | none => refuse .badArg s
      | some i =>
        match s.roster[i] with
        | .free => refuse .noEntry s
        | .reserved => refuse .noEntry s
        | .inCall _ => refuse .busy s
        | .bonded c =>
          if c.declared.rates.holds s.call.rate then
            match lowestFreeSlot s.slots with
            | some k => answerOk [BitVec.ofNat 8 k.val] (startJoin k i s)
            | none => refuse .full s
          else refuse .unsupported s
    else refuse .badState s
  | _ => refuse .badLength s

/-- Slot `k` as it enters STREAMING (R63). -/
def StreamSlot.begin (x : StreamSlot) : StreamSlot :=
  { StreamSlot.reset with state := .streaming, rosterIndex := x.rosterIndex }

/-- Slot `k` enters STREAMING with an earbud that declares `d` (R63, R80, R101, R138). -/
def enterStreaming (k : SlotId) (d : Declared) (s : State) : State :=
  joinResult (if findsNoVoice d s then 2 else 1) k
    (bindVoice k d
      ((((s.setSlot k s.slots[k].begin).setQueue k s.queues[k].begin).setConv k
        (Converter.starting d.clockClass.limit s.blockSamples)).setStore k []))

/-- Whether a JOIN_ACK is taken for slot `k`: its uplink slot began in JOINING and it still is (R56, R62). -/
def joinAckFor (h : AirHeader) (s : State) : Option SlotId :=
  match s.air.use with
  | .uplink k .joining => if s.slots[k].state = .joining ∧ fromSlotEarbud k h s then some k else none
  | _ => none

/-- The proof of slot `k`'s earbud, checked by the key unit (R62). -/
def checkProof (k : SlotId) (c : Contents) (proof : Key) (s : State) : Bool :=
  Config.proofPasses c.linkKey (s.slots[k].challenge.getD 0) proof

/-- The end of a join without a stream: the slot FREE, its entry BONDED, JOIN_RESULT with the result (R61, R62, R67). -/
def endJoin (result : Byte) (k : SlotId) (s : State) : State := joinResult result k (freeSlot k s)

/-- A JOIN_ACK taken for slot `k` (R62). -/
def answerJoin (k : SlotId) (accepts : Bool) (proof : Key) (s : State) : State :=
  if accepts then
    match slotContents k s with
    | some c => if checkProof k c proof s then enterStreaming k c.declared s else endJoin 4 k s
    | none => s
  else endJoin 3 k s

/-- JOIN_ACK (R62). -/
def joinAck (h : AirHeader) (accepts : Bool) (proof : Key) (s : State) : State :=
  match joinAckFor h s with
  | some k => answerJoin k accepts proof s
  | none => s

/-- The failure of a join called twenty times without an answer, when it is due (R61). -/
def joinNoAnswer (k : SlotId) (s : State) : State :=
  if s.slots[k].state = .joining ∧ 20 ≤ s.slots[k].intervalCount then endJoin 5 k s else s

/-! ### Streaming (R65, R82) -/

/-- The slot for which an UP is taken, and whether it is retried: the uplink slot began in STREAMING, or a spare slot is granted,
and the slot still is STREAMING (R54, R56, R72). -/
def upFor (h : AirHeader) (f : UpFrame) (s : State) : Option (SlotId × Bool) :=
  match s.air.use with
  | .uplink k .streaming =>
    if s.slots[k].state = .streaming ∧ fromSlotEarbud k h s ∧ upWellFormed s.blockSamples f then some (k, false) else none
  | .spare k =>
    if s.slots[k].state = .streaming ∧ fromSlotEarbud k h s ∧ upWellFormed s.blockSamples f then some (k, true) else none
  | _ => none

/-- What an UP does in the Air Scheduler, whatever the queue decides: heard, and a down miss when its down-ack is no (R65). -/
def noteHeard (k : SlotId) (downAck : Bool) (s : State) : State :=
  let marked := s.setSlot k { s.slots[k] with heard := true }
  if downAck then marked
  else
    marked.setQueue k
      { s.queues[k] with stats := { s.queues[k].stats with downMisses := bump s.queues[k].stats.downMisses } }

/-- UP (R65). -/
def takeUp (h : AirHeader) (f : UpFrame) (s : State) : State :=
  match upFor h f s with
  | some (k, retried) => takeArrival k (entryOf f s.air.anchor retried) (noteHeard k f.downAck s)
  | none => s

/-! ### Leaving and link loss (R67 to R69) -/

/-- EAR_LEAVE (R67). -/
def earLeave (body : List Byte) (s : State) : Answer :=
  match body with
  | [slot] =>
    match indexOfByte 4 slot with
    | none => refuse .badArg s
    | some k =>
      match s.slots[k].state with
      | .free => refuse .noEntry s
      | .joining => answerOk [] (endJoin 6 k s)
      | .streaming => answerOk [] (enterLeaving k s)
      | .leaving => answerOk [] s
  | _ => refuse .badLength s

/-- Whether a LEAVE_ACK is taken for slot `k`: its uplink slot began in LEAVING and it still is (R56, R68). -/
def leaveAckFor (h : AirHeader) (s : State) : Option SlotId :=
  match s.air.use with
  | .uplink k .leaving => if s.slots[k].state = .leaving ∧ fromSlotEarbud k h s then some k else none
  | _ => none

/-- LEAVE_ACK (R68). -/
def leaveAck (h : AirHeader) (s : State) : State :=
  match leaveAckFor h s with
  | some k => freeSlot k s
  | none => s

/-- The end of a leave whose third LEAVE went unanswered, when it is due (R68). -/
def leaveUnanswered (k : SlotId) (s : State) : State :=
  if s.slots[k].state = .leaving ∧ 3 ≤ s.slots[k].intervalCount then freeSlot k s else s

/-- The slot's stream ended if it is STREAMING; a LEAVING slot's has ended already (R69). -/
def endStream (k : SlotId) (s : State) : State := if s.slots[k].state = .streaming then leaveStreaming k s else s

/-- Link loss of slot `k`, when it is due (R69). -/
def linkLoss (k : SlotId) (s : State) : State :=
  if linkLossDue s.slots[k] then raiseAt Source.linkLoss 1 k (freeSlot k (endStream k s)) else s

/-- A stream slot at the end of an interval: the count of JOIN_REQs or LEAVEs, the supervision count, heard (R61, R68, R69). -/
def StreamSlot.endInterval (x : StreamSlot) : StreamSlot :=
  { x with
    intervalCount := match x.state, x.carried with
      | .joining, .joinReq => saturatingSucc 20 x.intervalCount
      | .leaving, .leave => saturatingSucc 20 x.intervalCount
      | _, _ => x.intervalCount
    supervision := match x.state with
      | .streaming => if x.heard then 0 else saturatingSucc 50 x.supervision
      | .leaving => if x.heard then 0 else saturatingSucc 50 x.supervision
      | _ => x.supervision
    heard := false
    retryCandidate := false
    carried := .nothing }

/-! ### The spare slots (R70 to R73) -/

/-- At the end of its uplink slot, a STREAMING slot not heard becomes a retry candidate (R70). -/
def markRetry (k : SlotId) (s : State) : State :=
  if s.slots[k].state = .streaming ∧ s.slots[k].heard = false then
    s.setSlot k { s.slots[k] with retryCandidate := true }
  else s

/-- The first retry candidate in turn after last granted (R71). -/
def nextCandidate (s : State) : Option SlotId :=
  [s.air.lastGranted + 1, s.air.lastGranted + 2, s.air.lastGranted + 3, s.air.lastGranted].find?
    fun k => s.slots[k].retryCandidate

/-- The arbiter grants a spare slot to the next candidate in turn, with a POLL; with none, nothing is granted (R71, R72). -/
def grantSpare (s : State) : State :=
  match nextCandidate s with
  | some k =>
    sendToSlot k (.poll k)
      (setUse (.spare k)
        ({ s with air := { s.air with lastGranted := k } }.setSlot k { s.slots[k] with retryCandidate := false }))
  | none => s

/-- A candidate left at the start of slot 9 is denied: counted, and RETRY_DENIED raised (R73). -/
def denyRetry (code : Byte) (k : SlotId) (s : State) : State :=
  if s.slots[k].retryCandidate then
    raiseAt Source.retryDenied code k
      ((s.setSlot k { s.slots[k] with retryCandidate := false }).setQueue k
        { s.queues[k] with stats := { s.queues[k].stats with retryDenials := bump s.queues[k].stats.retryDenials } })
  else s

/-! ### The downlink and uplink slots (R54, R61, R68, R75) -/

/-- The fields of a DOWN frame that carries `b` (R57, R75). -/
def downPayload (x : StreamSlot) (b : Block) (repeated : Bool) : AirPayload :=
  .down x.downSequence (b.number.truncate 16) repeated x.lastAccepted b.samples

/-- A block of zeros with block number 0 (R75). -/
def zeroBlock (n : Nat) : Block := ⟨0, List.replicate n 0⟩

/-- The DOWN frame of slot `k`: the oldest block of the store, the last sent again, or zeros (R75). -/
def sendDown (k : SlotId) (s : State) : State :=
  match s.stores[k], s.slots[k].lastSent with
  | b :: rest, _ =>
    sendToSlot k (downPayload s.slots[k] b false)
      ((s.setStore k rest).setSlot k
        { s.slots[k] with downSequence := s.slots[k].downSequence + 1, lastSent := some b })
  | [], some b =>
    raiseAt Source.downSlip 2 k
      (sendToSlot k (downPayload s.slots[k] b true)
        (s.setSlot k { s.slots[k] with downSequence := s.slots[k].downSequence + 1 }))
  | [], none =>
    raiseAt Source.downSlip 2 k
      (sendToSlot k (downPayload s.slots[k] (zeroBlock s.blockSamples) true)
        (s.setSlot k { s.slots[k] with downSequence := s.slots[k].downSequence + 1 }))

/-- The start of downlink slot 2k, by the state of slot `k` (Table 4.1). -/
def startDownlink (k : SlotId) (s : State) : State :=
  match s.slots[k].state with
  | .free => s
  | .joining =>
    sendToSlot k (.joinReq s.call.rate k (s.slots[k].challenge.getD 0))
      (setUse (.downlink k) (s.setSlot k { s.slots[k] with carried := .joinReq }))
  | .streaming => sendDown k (setUse (.downlink k) s)
  | .leaving => sendToSlot k .leave (setUse (.downlink k) (s.setSlot k { s.slots[k] with carried := .leave }))

/-- The start of uplink slot 2k + 1: the state at the start decides what is listened for (Table 4.1, R54). -/
def startUplink (k : SlotId) (s : State) : State :=
  match s.slots[k].state with
  | .free => s
  | .joining => setUse (.uplink k .joining) s
  | .streaming => setUse (.uplink k .streaming) s
  | .leaving => setUse (.uplink k .leaving) s

/-! ### The commands -/

/-- The command EAR_JOIN. -/
def execEarJoin (tag : Byte) (body : List Byte) (s : State) : Host.Outcome State Fault Refusal :=
  .next (takeRequest 0x0E tag body (earJoin body) s)

/-- The command EAR_LEAVE. -/
def execEarLeave (tag : Byte) (body : List Byte) (s : State) : Host.Outcome State Fault Refusal :=
  .next (takeRequest 0x0F tag body (earLeave body) s)

/-- The command JOIN_ACK. -/
def execJoinAck (h : AirHeader) (accepts : Bool) (proof : Key) (s : State) : Host.Outcome State Fault Refusal :=
  .next (joinAck h accepts proof s)

/-- The command LEAVE_ACK. -/
def execLeaveAck (h : AirHeader) (s : State) : Host.Outcome State Fault Refusal := .next (leaveAck h s)

/-- The command UP. -/
def execUp (h : AirHeader) (f : UpFrame) (s : State) : Host.Outcome State Fault Refusal := .next (takeUp h f s)

/-- The command JOIN_NO_ANSWER. -/
def execJoinNoAnswer (k : SlotId) (s : State) : Host.Outcome State Fault Refusal := .next (joinNoAnswer k s)

/-- The command LEAVE_UNANSWERED. -/
def execLeaveUnanswered (k : SlotId) (s : State) : Host.Outcome State Fault Refusal := .next (leaveUnanswered k s)

/-- The command LINK_LOSS. -/
def execLinkLoss (k : SlotId) (s : State) : Host.Outcome State Fault Refusal := .next (linkLoss k s)

end Sys2Proof.Machine
end

