-- ==== Sys2Proof/Machine/Pairing.lean ====
section
/-! DEFINITION. Pairing (chapter 3): the handshake's requests, the frames of its turns, its timers, and its ends. -/

namespace Sys2Proof.Machine

open Sys2Proof

/-- PAIR_EVENT with a code and a value (R51). -/
def pairEvent (code : Byte) (value : Count32) (s : State) : State := raise Source.pairEvent code value s

/-- The present context with new fields. -/
def State.setPair (p : PairContext) (s : State) : State := { s with pair := p }

/-! ### The key unit (R42, R43) -/

/-- A key computation begins, or waits for a discarded one still in flight (R42). -/
def KeyUnit.begin (partValue earValue : PublicValue) (u : KeyUnit) : KeyUnit :=
  match u.running with
  | none => { u with running := some ⟨partValue, earValue, 0, false⟩ }
  | some _ => { u with waiting := some (partValue, earValue) }

/-- The computation in flight is discarded and runs on; one that has not begun is dropped (R42, R45). -/
def KeyUnit.discard (u : KeyUnit) : KeyUnit where
  running := u.running.map fun k => { k with discarded := true }
  waiting := none

/-- A computation has completed: one that waits begins (R42). -/
def KeyUnit.complete (u : KeyUnit) : KeyUnit where
  running := u.waiting.map fun w => ⟨w.1, w.2, 0, false⟩
  waiting := none

/-- An air interval has ended for the computation in flight (R42). -/
def KeyUnit.endInterval (u : KeyUnit) : KeyUnit :=
  { u with running := u.running.map fun k => { k with intervals := saturatingSucc 5 k.intervals } }

/-- The comparison code: the link key's first four bytes modulo 1,000,000 (R43). -/
def codeOfKey (key : Key) : Nat := key.toNat / 2 ^ 96 % 1000000

/-! ### Failure (R47, R48) -/

/-- Every field of Table 3.1 at its reset value except the window (R46, R47). -/
def PairContext.cleared (p : PairContext) : PairContext := { PairContext.reset with window := p.window }

/-- A pairing turn in progress no longer serves a handshake that has ended: the first turn of a handshake is the first slot 9 to
begin after its PAIR_START (R34; DEDUCED, log entry 30). -/
def SlotUse.afterHandshake (u : SlotUse) : SlotUse :=
  match u with
  | .turn _ _ => .idle
  | other => other

/-- The context returns to IDLE, its fields cleared (R46, R47). -/
def endHandshake (s : State) : State := setUse s.air.use.afterHandshake (s.setPair s.pair.cleared)

/-- The pairing fails with a reason (R47). -/
def failPairing (reason : FailReason) (s : State) : State :=
  pairEvent 4 reason.code
    (endHandshake { releaseReservation s.pair.reservedEntry s with keyUnit := s.keyUnit.discard })

/-- An ABANDON is owed: the end is pending with its reason (R48). -/
def owe (reason : FailReason) (s : State) : State := s.setPair { s.pair with endPending := some reason }

/-! ### The candidate list (R36 to R38) -/

/-- The address of a candidate. -/
def Candidate.address (x : Candidate) : Address := x.declared.address

/-- Whether an address is listed. -/
def listed (a : Address) (candidates : List Candidate) : Bool := candidates.any fun x => x.address == a

/-- A listed candidate heard again keeps its place and its declared fields (R36). -/
def refresh (a : Address) (quality : Byte) (interval : Count32) (candidates : List Candidate) : List Candidate :=
  candidates.map fun x => if x.address = a then { x with quality := quality, lastHeard := interval } else x

/-- The lowest quality in a list (R37). -/
def lowestQuality (candidates : List Candidate) : Nat := candidates.foldl (fun q x => min q x.quality.toNat) 255

/-- The list without the last of the candidates that have quality `q` (R37). -/
def removeLastOf (q : Nat) (candidates : List Candidate) : List Candidate :=
  (candidates.reverse.eraseP fun x => x.quality.toNat == q).reverse

/-- A well-formed ASK that a listening part takes: the list after it, and the index of a new candidate (R36, R37). -/
def hearCandidate (x : Candidate) (candidates : List Candidate) : List Candidate × Option Nat :=
  if listed x.address candidates then (refresh x.address x.quality x.lastHeard candidates, none)
  else if candidates.length < 4 then (candidates ++ [x], some candidates.length)
  else if lowestQuality candidates < x.quality.toNat then (removeLastOf (lowestQuality candidates) candidates ++ [x], some 3)
  else (candidates, none)

/-- PAIR_EVENT CANDIDATE with an index, if there is a new candidate (R36, R37). -/
def raiseCandidate (index : Option Nat) (s : State) : State :=
  match index with
  | some i => pairEvent 1 (BitVec.ofNat 32 i) s
  | none => s

/-- Whether the slot in progress is in its second half: 2,000 ticks have passed since its start (R34). -/
def secondHalf (a : AirState) : Bool := timeReached (a.anchor + 2000) a

/-- Whether a frame is addressed to the part in the second half of a turn that began in `began` and carries no ABANDON, with no
end pending (R34, R48, R56; DESIGN CHOICE, log entry 17). -/
def inTurn (began : PairState) (h : AirHeader) (s : State) : Bool :=
  s.air.use == .turn began false && secondHalf s.air && s.pair.endPending == none && h.destination == Config.partAddress

/-- Whether a frame comes from the partner (R34). -/
def fromPartner (h : AirHeader) (p : PairContext) : Bool := p.partner.any fun x => x.address == h.source

/-- A turn frame of the partner, taken while the context stands in `st` in a turn that began in it (R34). -/
def takenFromPartner (st : PairState) (h : AirHeader) (s : State) : Bool :=
  inTurn st h s && s.pair.state == st && fromPartner h s.pair

/-- ASK (R36, R37). -/
def ask (h : AirHeader) (raw : RawDeclared) (quality : Byte) (s : State) : State :=
  if inTurn .listen h s && s.pair.state == .listen then
    match checkDeclared h.source raw with
    | some d =>
      raiseCandidate (hearCandidate ⟨d, quality, s.air.interval⟩ s.pair.candidates).2
        (s.setPair { s.pair with candidates := (hearCandidate ⟨d, quality, s.air.interval⟩ s.pair.candidates).1 })
    | none => s
  else s

/-- Whether a candidate is still listed at the start of interval `i` (R38). -/
def stillHeard (i : Count32) (x : Candidate) : Bool := (i - x.lastHeard).toNat < 300

/-- The expiry of candidates in LISTEN (R38). -/
def candidateExpiry (s : State) : State :=
  if s.pair.state = .listen then
    s.setPair { s.pair with candidates := s.pair.candidates.filter (stillHeard s.air.interval) }
  else s

/-- The window's end in LISTEN, when it is due (R39). -/
def windowEnd (s : State) : State :=
  if s.pair.state = .listen ∧ s.pair.windowEnded then failPairing .windowEnd s else s

/-! ### The requests (R35, R40, R44, R49) -/

/-- An accepted PAIR_START with the entry reserved (R35). -/
def startPairing (i : EntryId) (window : Nat) (s : State) : State :=
  (s.setEntry i .reserved).setPair
    { s.pair with
      state := .listen, reservedEntry := some i, window := window, windowCount := 0, windowEnded := false, candidates := [] }

/-- PAIR_START (R35). -/
def pairStart (body : List Byte) (s : State) : Answer :=
  match body with
  | [window] =>
    if s.pair.state = .idle then
      match lowestFreeEntry s.roster with
      | some i =>
        let w := clampNat 1 120 window.toNat
        answerClamped (w != window.toNat) [BitVec.ofNat 8 i.val, BitVec.ofNat 8 w] (startPairing i w s)
      | none => refuse .full s
    else refuse .busy s
  | _ => refuse .badLength s

/-- Whether an address is held by an IN_CALL entry (R40, check 5). -/
def addressInCall (a : Address) (roster : Vector RosterEntry 8) : Bool :=
  (List.finRange 8).any fun i => roster[i].isInCall && holdsAddress a roster[i]

/-- Whether a LEFT or RIGHT place is held by an entry with a different address (R40, check 6). -/
def placeHeldByOther (d : Declared) (roster : Vector RosterEntry 8) : Bool :=
  (List.finRange 8).any fun i => holdsPlace d.place roster[i] && !holdsAddress d.address roster[i]

/-- An accepted PAIR_PICK (R40). -/
def startOffer (x : Candidate) (s : State) : State :=
  countDraw
    (s.setPair
      { s.pair with
        state := .offered, partner := some x, partValue := some (Config.freshPublicValue s.draws), attempt := 1,
        turnsWaited := 0, hostConfirmed := false, earConfirmed := false, linkKey := none })

/-- PAIR_PICK (R40). -/
def pairPick (body : List Byte) (s : State) : Answer :=
  match body with
  | [index] =>
    if s.pair.state = .listen then
      match indexOfByte 4 index with
      | none => refuse .badArg s
      | some i =>
        match s.pair.candidates[i.val]? with
        | none => refuse .noEntry s
        | some x =>
          if addressInCall x.address s.roster then refuse .busy s
          else if placeHeldByOther x.declared s.roster then refuse .conflict s
          else answerOk [] (startOffer x s)
    else refuse .badState s
  | _ => refuse .badLength s

/-- A confirmation taken in COMPARE: with both at yes the context moves to BINDING (R44). -/
def PairContext.settleConfirmed (p : PairContext) : PairContext :=
  if p.state = .compare ∧ p.hostConfirmed ∧ p.earConfirmed then { p with state := .binding, bindCount := 0 } else p

/-- PAIR_CONFIRM (R44, R45). -/
def pairConfirm (body : List Byte) (s : State) : Answer :=
  match body with
  | [value] =>
    if s.pair.state = .compare ∧ s.pair.endPending = none then
      match switchOfByte value with
      | some true => answerOk [] (s.setPair { s.pair with hostConfirmed := true }.settleConfirmed)
      | some false => answerOk [] (owe .rejectedByHost s)
      | none => refuse .badArg s
    else refuse .badState s
  | _ => refuse .badLength s

/-- An accepted PAIR_CANCEL, by the state (R49). -/
def cancelPairing (s : State) : State :=
  if s.pair.endPending = none then
    if s.pair.state = .listen then failPairing .cancelled s else owe .cancelled s
  else s

/-- PAIR_CANCEL (R49). -/
def pairCancel (body : List Byte) (s : State) : Answer :=
  match body with
  | [] => if s.pair.state = .idle then refuse .badState s else answerOk [] (cancelPairing s)
  | _ => refuse .badLength s

/-! ### The partner's frames (R42, R44 to R46) -/

/-- ACCEPT (R42). -/
def accept (h : AirHeader) (earValue : PublicValue) (s : State) : State :=
  if takenFromPartner .offered h s then
    { s.setPair { s.pair with state := .keying, earValue := some earValue } with
      keyUnit := s.keyUnit.begin (s.pair.partValue.getD []) earValue }
  else s

/-- Whether the context waits for the earbud's word on the code: it stands in KEYING or COMPARE (R34). -/
def PairState.awaitsWord (st : PairState) : Bool :=
  match st with
  | .keying => true
  | .compare => true
  | _ => false

/-- A CONFIRM or a REJECT taken from the partner: the turn began in KEYING or COMPARE and the context stands in one of them
(R34; DEDUCED, log entry 30). -/
def wordTaken (h : AirHeader) (s : State) : Bool :=
  (inTurn .keying h s || inTurn .compare h s) && s.pair.state.awaitsWord && fromPartner h s.pair

/-- CONFIRM (R44). -/
def confirm (h : AirHeader) (s : State) : State :=
  if wordTaken h s then s.setPair { s.pair with earConfirmed := true }.settleConfirmed else s

/-- REJECT (R45). -/
def reject (h : AirHeader) (s : State) : State := if wordTaken h s then failPairing .rejectedByEar s else s

/-- The bond is made: DONE with the index of the entry written, and the context IDLE (R46). -/
def finishPairing (i : EntryId) (s : State) : State := pairEvent 3 (BitVec.ofNat 32 i.val) (endHandshake s)

/-- The roster's answer to a bind settles the outcome (R29, R46). -/
def settleBind (reserved : EntryId) (c : Contents) (s : State) : State :=
  match judgeBind reserved c.declared s.roster with
  | .busy => owe .inCall s
  | .conflict => owe .conflict s
  | .rebonded i => finishPairing i ((s.setEntry i (.bonded c)).setEntry reserved .free)
  | .bonded i => finishPairing i (s.setEntry i (.bonded c))

/-- BOUND (R46; DESIGN CHOICE, log entry 28). -/
def bound (h : AirHeader) (s : State) : State :=
  if takenFromPartner .binding h s then
    match s.pair.reservedEntry, s.pair.partner, s.pair.linkKey with
    | some reserved, some x, some key => settleBind reserved ⟨x.declared, key⟩ s
    | _, _, _ => s
  else s

/-! ### The turn (R34, R41, R46, R48) -/

/-- A frame sent to the partner. -/
def sendToPartner (payload : AirPayload) (s : State) : State :=
  sendFrame ((s.pair.partner.map Candidate.address).getD 0) payload s

/-- A BEACON, to an address of six bytes of 255 (R34, R56). -/
def sendBeacon (openToAsk : Bool) (s : State) : State :=
  sendFrame (BitVec.allOnes 48) (.beacon Config.partAddress openToAsk) s

/-- What the context sends in the first half of a turn (R34). -/
def sendTurnFrame (s : State) : State :=
  if s.pair.endPending = none then
    match s.pair.state with
    | .idle => s
    | .listen => sendBeacon true s
    | .offered =>
      if s.pair.turnsWaited = 0 then sendToPartner (.offer (s.pair.partValue.getD [])) s else sendBeacon false s
    | .keying => sendBeacon false s
    | .compare => sendBeacon false s
    | .binding =>
      sendToPartner .bindFrame (s.setPair { s.pair with bindCount := saturatingSucc 10 s.pair.bindCount })
  else sendToPartner .abandon s

/-- A pairing turn begins (R34). -/
def startTurn (s : State) : State := sendTurnFrame (setUse (.turn s.pair.state s.pair.endPending.isSome) s)

/-- Time passes to `offset` ticks after the start of the slot in progress. -/
def passToOffset (offset : Tick) (s : State) : State := { s with air := passUntil (s.air.anchor + offset) s.air }

/-- Whether the slot in progress is a pairing turn. -/
def pairingTurn (s : State) : Bool :=
  match s.air.use with
  | .turn _ _ => true
  | _ => false

/-- Whether the slot in progress is a turn that carries an ABANDON. -/
def abandonTurn (s : State) : Bool :=
  match s.air.use with
  | .turn _ true => true
  | _ => false

/-- The ABANDON of the turn has been sent: the pairing fails with the pending reason (R48). -/
def endAbandon (s : State) : State :=
  match s.pair.endPending with
  | some reason => if abandonTurn s then failPairing reason s else s
  | none => s

/-- The end of the first half of a turn, 2,000 ticks after its start: the second half begins, or, where the turn carried the
ABANDON, the pairing fails (R34, R48; DEDUCED, log entry 32). -/
def turnFirstHalfEnd (s : State) : State := if pairingTurn s then endAbandon (passToOffset 2000 s) else s

/-- Whether the tenth BIND has gone unanswered (R46). -/
def bindNoAnswerDue (p : PairContext) : Bool := p.state == .binding && p.endPending == none && 10 ≤ p.bindCount

/-- The failure of a bind called ten times without a BOUND, at the end of the tenth BIND's turn (R46; DEDUCED, log entry 32). -/
def bindNoAnswer (s : State) : State :=
  if bindNoAnswerDue s.pair then failPairing .noAnswer (passToOffset 4000 s) else s

/-! ### The timers (R39, R41 to R43, R45) -/

/-- The window count and window ended at the end of an interval (R39). -/
def PairContext.countWindow (p : PairContext) : PairContext :=
  if p.state = .idle then p
  else
    { p with
      windowCount := saturatingSucc (100 * p.window) p.windowCount
      windowEnded := 100 * p.window ≤ saturatingSucc (100 * p.window) p.windowCount }

/-- The turns waited after an interval whose slot 9 was put to `use`: they advance when its turn began in OFFERED, also where an
ACCEPT taken in it has led on to KEYING (R41). -/
def PairContext.countTurn (use : SlotUse) (p : PairContext) : PairContext :=
  if use = .turn .offered false then { p with turnsWaited := saturatingSucc 4 p.turnsWaited } else p

/-- The turns waited and the compare count at the end of an interval whose slot 9 was put to `use` (R41, R45, R48). -/
def PairContext.countWaits (use : SlotUse) (p : PairContext) : PairContext :=
  if p.endPending = none then
    match p.state with
    | .compare => { p.countTurn use with compareCount := saturatingSucc 3000 p.compareCount }
    | _ => p.countTurn use
  else p

/-- The context at the end of an interval. -/
def PairContext.endInterval (use : SlotUse) (p : PairContext) : PairContext := (p.countWaits use).countWindow

/-- Whether an attempt has gone four turns without an ACCEPT (R41). -/
def offerTimeoutDue (p : PairContext) : Bool := p.state == .offered && p.endPending == none && 4 ≤ p.turnsWaited

/-- The pick fails: the partner's candidate leaves the list, and the context returns to LISTEN (R41; DEDUCED, log entry 27). -/
def PairContext.failPick (p : PairContext) : PairContext :=
  { p with
    state := .listen
    candidates := p.candidates.filter fun x => p.partner.all fun y => x.address != y.address
    partner := none, partValue := none, attempt := 1 }

/-- The end of an attempt without an ACCEPT, when it is due (R41, R39). -/
def offerTimeout (s : State) : State :=
  if offerTimeoutDue s.pair then
    if s.pair.attempt < 3 then s.setPair { s.pair with attempt := s.pair.attempt + 1, turnsWaited := 0 }
    else windowEnd (pairEvent 4 FailReason.noAnswer.code (s.setPair s.pair.failPick))
  else s

/-- The link key is delivered: COMPARE is entered and the code told (R43). -/
def deliverKey (key : Key) (s : State) : State :=
  pairEvent 2 (BitVec.ofNat 32 (codeOfKey key))
    (s.setPair { s.pair with state := .compare, linkKey := some key, compareCount := 0 })

/-- Whether a completed computation is delivered: it has not been discarded, and the context stands in KEYING with no end
pending (R43). -/
def delivers (k : KeyComputation) (p : PairContext) : Bool := !k.discarded && p.state == .keying && p.endPending == none

/-- The computation of the key unit that has run its five intervals (R42). -/
def KeyUnit.finished (u : KeyUnit) : Option KeyComputation :=
  match u.running with
  | some k => if 5 ≤ k.intervals then some k else none
  | none => none

/-- The completion of a key computation, when it is due (R42, R43). -/
def keyComputationDone (s : State) : State :=
  match s.keyUnit.finished with
  | some k =>
    if delivers k s.pair then
      deliverKey (Config.linkKey k.partValue k.earValue) { s with keyUnit := s.keyUnit.complete }
    else { s with keyUnit := s.keyUnit.complete }
  | none => s

/-- The compare timeout, when it is due (R45). -/
def compareTimeout (s : State) : State :=
  if s.pair.state = .compare ∧ s.pair.endPending = none ∧ 3000 ≤ s.pair.compareCount then owe .timeout s else s

/-! ### The commands -/

/-- The command PAIR_START. -/
def execPairStart (tag : Byte) (body : List Byte) (s : State) : Host.Outcome State Fault Refusal :=
  .next (takeRequest 0x0A tag body (pairStart body) s)

/-- The command PAIR_PICK. -/
def execPairPick (tag : Byte) (body : List Byte) (s : State) : Host.Outcome State Fault Refusal :=
  .next (takeRequest 0x0B tag body (pairPick body) s)

/-- The command PAIR_CONFIRM. -/
def execPairConfirm (tag : Byte) (body : List Byte) (s : State) : Host.Outcome State Fault Refusal :=
  .next (takeRequest 0x0C tag body (pairConfirm body) s)

/-- The command PAIR_CANCEL. -/
def execPairCancel (tag : Byte) (body : List Byte) (s : State) : Host.Outcome State Fault Refusal :=
  .next (takeRequest 0x0D tag body (pairCancel body) s)

/-- The command ASK. -/
def execAsk (h : AirHeader) (declared : RawDeclared) (quality : Byte) (s : State) : Host.Outcome State Fault Refusal :=
  .next (ask h declared quality s)

/-- The command ACCEPT. -/
def execAccept (h : AirHeader) (earValue : PublicValue) (s : State) : Host.Outcome State Fault Refusal :=
  .next (accept h earValue s)

/-- The command CONFIRM. -/
def execConfirm (h : AirHeader) (s : State) : Host.Outcome State Fault Refusal := .next (confirm h s)

/-- The command REJECT. -/
def execReject (h : AirHeader) (s : State) : Host.Outcome State Fault Refusal := .next (reject h s)

/-- The command BOUND. -/
def execBound (h : AirHeader) (s : State) : Host.Outcome State Fault Refusal := .next (bound h s)

/-- The command PAIR_TURN_FIRST_HALF_END. -/
def execPairTurnFirstHalfEnd (s : State) : Host.Outcome State Fault Refusal := .next (turnFirstHalfEnd s)

/-- The command BIND_NO_ANSWER. -/
def execBindNoAnswer (s : State) : Host.Outcome State Fault Refusal := .next (bindNoAnswer s)

/-- The command CANDIDATE_EXPIRY. -/
def execCandidateExpiry (s : State) : Host.Outcome State Fault Refusal := .next (candidateExpiry s)

/-- The command WINDOW_END. -/
def execWindowEnd (s : State) : Host.Outcome State Fault Refusal := .next (windowEnd s)

/-- The command OFFER_TIMEOUT. -/
def execOfferTimeout (s : State) : Host.Outcome State Fault Refusal := .next (offerTimeout s)

/-- The command KEY_COMPUTATION_DONE. -/
def execKeyComputationDone (s : State) : Host.Outcome State Fault Refusal := .next (keyComputationDone s)

/-- The command COMPARE_TIMEOUT. -/
def execCompareTimeout (s : State) : Host.Outcome State Fault Refusal := .next (compareTimeout s)

end Sys2Proof.Machine
end

