-- ==== Sys2Proof/Machine/Control.lean ====
section
/-! DEFINITION. The Control Port (chapter 11): the receiver, the request queue, the transmitter, identity and reset. -/

namespace Sys2Proof.Machine

open Sys2Proof

/-- The state with a new Control Port. -/
def State.setControl (c : ControlPort) (s : State) : State := { s with control := c }

/-! ### The receiver (R172) -/

/-- A receive fault: the frame fault count advances, and FRAME_FAULT is raised with it (R172). -/
def frameFault (code : Byte) (s : State) : State :=
  raise Source.frameFault code (BitVec.ofNat 32 (bump s.control.faultCount))
    (s.setControl { s.control with faultCount := bump s.control.faultCount })

/-- The bytes of the frame being received leave the buffer, and the receiver hunts (R172). -/
def ControlPort.dropFrame (c : ControlPort) : ControlPort := settleReady { c with openFrame := [] }

/-- The frame being received is discarded with a fault (R172). -/
def discardFrame (code : Byte) (s : State) : State := frameFault code (s.setControl s.control.dropFrame)

/-- A byte is stored at the present time (R172; DEDUCED, log entry 23). -/
def ControlPort.store (b : Byte) (now : Tick) (c : ControlPort) : ControlPort :=
  settleReady { c with openFrame := c.openFrame ++ [b], lastByteTime := now }

/-- The frame received has a correct sum: it stands whole in the buffer (R172). -/
def ControlPort.keepFrame (c : ControlPort) : ControlPort :=
  { c with goodFrames := c.goodFrames ++ [c.openFrame], openFrame := [] }

/-- Whether a waiting good frame may become a request: the request queue has room, and no RESET_SOFT holds the frames in the
buffer (R174, R176; DEDUCED, log entry 21). -/
def ControlPort.admits (c : ControlPort) : Bool := c.requests.length < 4 && c.softReset == .notAsked

/-- The oldest good frame becomes a request, and its bytes leave the buffer (R174). -/
def ControlPort.queueFrame (c : ControlPort) : ControlPort :=
  match c.goodFrames with
  | [] => c
  | bytes :: rest =>
    if c.admits then
      settleReady { c with goodFrames := rest, requests := c.requests ++ (messageOfFrame bytes).toList }
    else c

/-- What the bytes of the frame being received amount to, once the last of them is stored (R172). -/
inductive FrameVerdict where
  | unfinished | badLength | badCheck | good
  deriving DecidableEq, Repr

/-- The judgement of the bytes stored from the Sync byte on (R171, R172). -/
def judgeFrame (stored : List Byte) : FrameVerdict :=
  match frameLength stored with
  | none => .unfinished
  | some n =>
    if n < 2 ∨ 258 < n then .badLength
    else if stored.length < n + 4 then .unfinished
    else if byteSum stored.tail = 0 then .good
    else .badCheck

/-- What follows the storing of a byte inside a frame (R172, R174). -/
def settleFrame (s : State) : State :=
  match judgeFrame s.control.openFrame with
  | .unfinished => s
  | .badLength => discardFrame 2 s
  | .badCheck => discardFrame 1 s
  | .good => s.setControl s.control.keepFrame.queueFrame

/-- A byte arrives on CPRX at the present time (R172). -/
def receiveByte (b : Byte) (s : State) : State :=
  if s.control.openFrame.isEmpty && b != syncByte then s
  else if 1024 ≤ bufferedBytes s.control then discardFrame 4 s
  else settleFrame (s.setControl (s.control.store b s.air.timeBase))

/-- Whether 20 ms have passed inside a frame since the last byte stored (R172). -/
def byteTimeoutDue (s : State) : Bool :=
  !s.control.openFrame.isEmpty && 80000 ≤ ticksSince s.control.lastByteTime s

/-- The byte timeout, when it is due (R172; DESIGN CHOICE, log entry 5). -/
def byteTimeout (s : State) : State := if byteTimeoutDue s then discardFrame 3 s else s

/-- A waiting good frame becomes a request when a place is free (R174; DEDUCED, log entry 24). -/
def frameToRequest (s : State) : State := s.setControl s.control.queueFrame

/-! ### Identity and reset (R176) -/

/-- The identity body (R176). -/
def identityBody : List Byte := [0x45, 0x57, 0x34, 0x34, 1, 8, 4, 8, 2, 15]

/-- HELLO (R176). -/
def hello (body : List Byte) (s : State) : Answer :=
  match body with
  | [] => answerOk identityBody s
  | _ => refuse .badLength s

/-- RESET_SOFT (R176). -/
def resetSoft (body : List Byte) (s : State) : Answer :=
  match body with
  | [] => answerOk [] (s.setControl { s.control with softReset := .replyOwed })
  | _ => refuse .badLength s

/-- The reset that follows the RESET_SOFT reply, when it is due (R176). -/
def softReset (s : State) : State := if s.control.softReset = .due then resetPart s else s

/-! ### The transmitter (R175) -/

/-- The transmitter starts a frame. -/
def send (what : SendingKind) (m : Message) (s : State) : State :=
  s.setControl { s.control with sending := some ⟨what, m.frame⟩ }

/-- The start frame: kind 0x41, tag 0, the identity body (R176). -/
def startFrame : Message := ⟨0x41, 0, identityBody⟩

/-- The start frame is sent and owed no more (R175, R176). -/
def sendStart (s : State) : State :=
  s.setControl { s.control with sending := some ⟨.start, startFrame.frame⟩, startOwed := false }

/-- A report of class `c` is made and its frame, of kind 0x40 and tag 0, is sent (R164, R171, R175). -/
def sendReport (c : ClassId) (s : State) : State :=
  send .report ⟨0x40, 0, reportBody c s.notices⟩ { s with notices := makeReport c s.notices }

/-- The choice of the next frame: the start frame, the oldest reply, or a report; with none waiting the transmitter stays idle
(R175). -/
def chooseFrame (s : State) : State :=
  if s.control.startOwed then sendStart s
  else
    match s.control.replies with
    | m :: _ => send .reply m s
    | [] =>
      match lowestEligible s.notices with
      | some c => sendReport c s
      | none => s

/-- Whether the transmitter may start a frame: it is idle, HRDY is active, and no reset is to be performed first (R175, R176). -/
def mayStart (hostReady : Bool) (c : ControlPort) : Bool := hostReady && c.sending.isNone && c.softReset != .due

/-- The transmitter, sampling HRDY, starts a frame if it may (R175; DESIGN CHOICE, log entry 15). -/
def transmitStart (hostReady : Bool) (s : State) : State := if mayStart hostReady s.control then chooseFrame s else s

/-- The last reply has left: a RESET_SOFT whose reply it was makes the reset due, for no later request is taken (R176). -/
def ControlPort.settleReset (c : ControlPort) : ControlPort :=
  if c.softReset = .replyOwed ∧ c.replies = [] then { c with softReset := .due } else c

/-- The last byte of the frame in flight has been sent; a sent reply leaves the reply queue (R175). -/
def transmitDone (s : State) : State :=
  match s.control.sending with
  | none => s
  | some x =>
    match x.what with
    | .start => s.setControl { s.control with sending := none }
    | .report => s.setControl { s.control with sending := none }
    | .reply => s.setControl { s.control with sending := none, replies := s.control.replies.tail }.settleReset

/-! ### The commands -/

/-- The command POWER_ON_RESET (R2; DEDUCED, log entry 35). -/
def execPowerOnReset (s : State) : Host.Outcome State Fault Refusal := .next (resetPart s)

/-- The command HELLO. -/
def execHello (tag : Byte) (body : List Byte) (s : State) : Host.Outcome State Fault Refusal :=
  .next (takeRequest 0x01 tag body (hello body) s)

/-- The command RESET_SOFT. -/
def execResetSoft (tag : Byte) (body : List Byte) (s : State) : Host.Outcome State Fault Refusal :=
  .next (takeRequest 0x02 tag body (resetSoft body) s)

/-- The command SOFT_RESET_PERFORMED. -/
def execSoftResetPerformed (s : State) : Host.Outcome State Fault Refusal := .next (softReset s)

/-- The command UNKNOWN_KIND_REQUEST: a kind that is a request kind is not this command's and has no effect here. -/
def execUnknownKindRequest (kind tag : Byte) (body : List Byte) (s : State) : Host.Outcome State Fault Refusal :=
  .next (if isRequestKind kind then s else takeWith 0x80 ⟨kind, tag, body⟩ (refuse .unknownKind) s)

/-- The command CONTROL_PORT_BYTE: `elapsed` ticks pass, and a byte arrives. -/
def execControlPortByte (elapsed : Tick) (byte : Byte) (s : State) : Host.Outcome State Fault Refusal :=
  .next (receiveByte byte (passTime elapsed s))

/-- The command BYTE_TIMEOUT: `elapsed` ticks pass, and the timeout is taken when it is due. -/
def execByteTimeout (elapsed : Tick) (s : State) : Host.Outcome State Fault Refusal :=
  .next (byteTimeout (passTime elapsed s))

/-- The command FRAME_TO_REQUEST. -/
def execFrameToRequest (s : State) : Host.Outcome State Fault Refusal := .next (frameToRequest s)

/-- The command TRANSMIT_START. -/
def execTransmitStart (hostReady : Bool) (s : State) : Host.Outcome State Fault Refusal := .next (transmitStart hostReady s)

/-- The command TRANSMIT_DONE. -/
def execTransmitDone (s : State) : Host.Outcome State Fault Refusal := .next (transmitDone s)

end Sys2Proof.Machine
end

