-- ==== Sys2Proof/Machine/Clock.lean ====
section
/-! DEFINITION. The running of the air interval (R53, R54): its slots, its end, and what the part does by itself while no command
waits (DESIGN CHOICE, log entry 1). -/

namespace Sys2Proof.Machine

open Sys2Proof

/-! ### The end of an interval (R53) -/

/-- The work of the slots' own events at an interval's end: leaves, joins and links given up, drift windows closed, fill timeouts
(R61, R68, R69, R90, R104). -/
def finishSlot (k : SlotId) (s : State) : State :=
  fillTimeout k (driftWindowClose k (linkLoss k (joinNoAnswer k (leaveUnanswered k s))))

/-- The work of the pairing events at an interval's end and the next one's start (R38, R39, R41, R43, R45). -/
def finishPairingTimers (s : State) : State :=
  candidateExpiry (windowEnd (keyComputationDone (compareTimeout (offerTimeout s))))

/-- What is left of the work of an interval's end, done "before slot 0 of interval i + 1 begins" (R53; DEDUCED, log entry 3). -/
def finishInterval (s : State) : State := finishPairingTimers (forEachSlot finishSlot s)

/-- What is left of a pairing turn when its interval ends: the ABANDON's end, or the tenth BIND without a BOUND (R46, R48;
DEDUCED, log entry 32). -/
def finishTurn (s : State) : State := bindNoAnswer (turnFirstHalfEnd s)

/-- The counts that advance at the end of an interval (R39, R41, R42, R45, R61, R68, R69, R90). -/
def countInterval (s : State) : State :=
  { s with
    slots := s.slots.map StreamSlot.endInterval
    queues := s.queues.map RxQueue.endInterval
    pair := s.pair.endInterval s.air.use
    keyUnit := s.keyUnit.endInterval }

/-- The next interval begins, and no slot of it has started (R53). -/
def nextInterval (s : State) : State :=
  { s with
    air := { passUntil (intervalStart (s.air.interval + 1)) s.air with
      interval := s.air.interval + 1, slot := none, use := .idle, sent := none } }

/-- AIR_INTERVAL_END (R53). -/
def airIntervalEnd (s : State) : State :=
  nextInterval (countInterval (finishTurn (if s.air.slot = none then finishInterval s else s)))

/-! ### The slots (R54) -/

/-- The slot that starts next, none after slot 9 (R54). -/
def nextSlot (a : AirState) : Option (Fin 10) :=
  match a.slot with
  | none => some 0
  | some n => if n = 9 then none else some (n + 1)

/-- The start of slot `n`: the time base is latched, and the slot has no use and no frame yet (R54, R55). -/
def beginSlot (n : Fin 10) (s : State) : State :=
  { s with
    air := { passUntil (slotStartTime s.air.interval n) s.air with
      slot := some n, anchor := slotStartTime s.air.interval n, use := .idle, sent := none } }

/-- Slot 9: a pairing turn unless the context is IDLE, else a spare slot; the candidates left are denied in the order 0 to
3, which the spec does not give (R34, R71, R73; DESIGN CHOICE, log entry 39). -/
def startSlotNine (s : State) : State :=
  if s.pair.state = .idle then forEachSlot (denyRetry 1) (grantSpare s) else forEachSlot (denyRetry 2) (startTurn s)

/-- What slot `n` does at its start, the uplink slot before it having ended (Table 4.1, R70). -/
def runSlot (n : Fin 10) (s : State) : State :=
  match n with
  | 0 => startDownlink 0 s
  | 1 => startUplink 0 s
  | 2 => startDownlink 1 (markRetry 0 s)
  | 3 => startUplink 1 s
  | 4 => startDownlink 2 (markRetry 1 s)
  | 5 => startUplink 2 s
  | 6 => startDownlink 3 (markRetry 2 s)
  | 7 => startUplink 3 s
  | 8 => grantSpare (markRetry 3 s)
  | 9 => startSlotNine s

/-- SLOT_START: the next slot of the plan starts (R54). -/
def slotStart (s : State) : State :=
  match nextSlot s.air with
  | some n => runSlot n (beginSlot n (if n = 0 then finishInterval s else s))
  | none => s

/-! ### The part by itself (DESIGN CHOICE, log entries 1 and 14) -/

/-- Whether the first half of a turn that carries an ABANDON has ended (R48). -/
def abandonTurnOver (s : State) : Bool :=
  abandonTurn s && s.pair.endPending.isSome && timeReached (s.air.anchor + 2000) s.air

/-- The command that takes the head of the request queue, when it may be taken (R174). -/
def takeableRequest (c : ControlPort) : Option Instr :=
  match c.requests with
  | [] => none
  | m :: _ => if canTake m c then some (instrOfMessage m) else none

/-- The event of the slot plan that has come due (R53, R54). -/
def planEvent (a : AirState) : Option Instr :=
  match nextSlot a with
  | some n => if timeReached (slotStartTime a.interval n) a then some .slotStart else none
  | none => if timeReached (intervalStart (a.interval + 1)) a then some .airIntervalEnd else none

/-- The event of the part's own that is due now, if there is one (DESIGN CHOICE, log entry 14). -/
def idleCommand (s : State) : Option Instr :=
  if s.control.softReset = .due then some .softResetPerformed
  else if abandonTurnOver s then some .pairTurnFirstHalfEnd
  else if lockTimeoutDue s then some (.lockTimeout 0)
  else if syncLossDue s then some (.syncLoss 0)
  else if freeRunReached s then some (.freeRunningBlockEvent 0)
  else if byteTimeoutDue s then some (.byteTimeout 0)
  else if s.control.admits && !s.control.goodFrames.isEmpty then some .frameToRequest
  else (takeableRequest s.control).or (planEvent s.air)

/-- One tick of the time base (R53). -/
def tick (s : State) : State := passTime 1 s

/-! ### The commands -/

/-- The command AIR_INTERVAL_END. -/
def execAirIntervalEnd (s : State) : Host.Outcome State Fault Refusal := .next (airIntervalEnd s)

/-- The command SLOT_START. -/
def execSlotStart (s : State) : Host.Outcome State Fault Refusal := .next (slotStart s)

end Sys2Proof.Machine
end

