-- ==== Sys2Proof/Machine/Dispatch.lean ====
section
/-! DEFINITION. The dispatch of a command to its meaning: one arm per constructor of `Instr`. -/

namespace Sys2Proof.Machine

open Sys2Proof

/-- What a command does to everything but the queue of commands. -/
def exec (i : Instr) (s : State) : Host.Outcome State Fault Refusal :=
  match i with
  | .powerOnReset => Sys2Proof.Machine.execPowerOnReset s
  | .hello tag body => Sys2Proof.Machine.execHello tag body s
  | .resetSoft tag body => Sys2Proof.Machine.execResetSoft tag body s
  | .softResetPerformed => Sys2Proof.Machine.execSoftResetPerformed s
  | .callOpen tag body => Sys2Proof.Machine.execCallOpen tag body s
  | .callHold tag body => Sys2Proof.Machine.execCallHold tag body s
  | .callResume tag body => Sys2Proof.Machine.execCallResume tag body s
  | .callClose tag body => Sys2Proof.Machine.execCallClose tag body s
  | .callGet tag body => Sys2Proof.Machine.execCallGet tag body s
  | .rosterPut tag body => Sys2Proof.Machine.execRosterPut tag body s
  | .rosterGet tag body => Sys2Proof.Machine.execRosterGet tag body s
  | .rosterDrop tag body => Sys2Proof.Machine.execRosterDrop tag body s
  | .pairStart tag body => Sys2Proof.Machine.execPairStart tag body s
  | .pairPick tag body => Sys2Proof.Machine.execPairPick tag body s
  | .pairConfirm tag body => Sys2Proof.Machine.execPairConfirm tag body s
  | .pairCancel tag body => Sys2Proof.Machine.execPairCancel tag body s
  | .earJoin tag body => Sys2Proof.Machine.execEarJoin tag body s
  | .earLeave tag body => Sys2Proof.Machine.execEarLeave tag body s
  | .queueSet tag body => Sys2Proof.Machine.execQueueSet tag body s
  | .mixSet tag body => Sys2Proof.Machine.execMixSet tag body s
  | .mixCommit tag body => Sys2Proof.Machine.execMixCommit tag body s
  | .mixGet tag body => Sys2Proof.Machine.execMixGet tag body s
  | .voiceSet tag body => Sys2Proof.Machine.execVoiceSet tag body s
  | .watchSet tag body => Sys2Proof.Machine.execWatchSet tag body s
  | .sinkSet tag body => Sys2Proof.Machine.execSinkSet tag body s
  | .statsGet tag body => Sys2Proof.Machine.execStatsGet tag body s
  | .noticeRoute tag body => Sys2Proof.Machine.execNoticeRoute tag body s
  | .noticeMask tag body => Sys2Proof.Machine.execNoticeMask tag body s
  | .noticeAck tag body => Sys2Proof.Machine.execNoticeAck tag body s
  | .noticePoll tag body => Sys2Proof.Machine.execNoticePoll tag body s
  | .unknownKindRequest kind tag body => Sys2Proof.Machine.execUnknownKindRequest kind tag body s
  | .controlPortByte elapsed byte => Sys2Proof.Machine.execControlPortByte elapsed byte s
  | .byteTimeout elapsed => Sys2Proof.Machine.execByteTimeout elapsed s
  | .frameToRequest => Sys2Proof.Machine.execFrameToRequest s
  | .transmitStart hostReady => Sys2Proof.Machine.execTransmitStart hostReady s
  | .transmitDone => Sys2Proof.Machine.execTransmitDone s
  | .airIntervalEnd => Sys2Proof.Machine.execAirIntervalEnd s
  | .slotStart => Sys2Proof.Machine.execSlotStart s
  | .ask header declared quality => Sys2Proof.Machine.execAsk header declared quality s
  | .accept header earValue => Sys2Proof.Machine.execAccept header earValue s
  | .confirm header => Sys2Proof.Machine.execConfirm header s
  | .reject header => Sys2Proof.Machine.execReject header s
  | .bound header => Sys2Proof.Machine.execBound header s
  | .joinAck header accepts proof => Sys2Proof.Machine.execJoinAck header accepts proof s
  | .leaveAck header => Sys2Proof.Machine.execLeaveAck header s
  | .up header frame => Sys2Proof.Machine.execUp header frame s
  | .pairTurnFirstHalfEnd => Sys2Proof.Machine.execPairTurnFirstHalfEnd s
  | .bindNoAnswer => Sys2Proof.Machine.execBindNoAnswer s
  | .candidateExpiry => Sys2Proof.Machine.execCandidateExpiry s
  | .windowEnd => Sys2Proof.Machine.execWindowEnd s
  | .offerTimeout => Sys2Proof.Machine.execOfferTimeout s
  | .keyComputationDone => Sys2Proof.Machine.execKeyComputationDone s
  | .compareTimeout => Sys2Proof.Machine.execCompareTimeout s
  | .joinNoAnswer slot => Sys2Proof.Machine.execJoinNoAnswer slot s
  | .leaveUnanswered slot => Sys2Proof.Machine.execLeaveUnanswered slot s
  | .linkLoss slot => Sys2Proof.Machine.execLinkLoss slot s
  | .fillTimeout slot => Sys2Proof.Machine.execFillTimeout slot s
  | .driftWindowClose slot => Sys2Proof.Machine.execDriftWindowClose slot s
  | .sync elapsed firstWord secondWord => Sys2Proof.Machine.execSync elapsed firstWord secondWord s
  | .syncLoss elapsed => Sys2Proof.Machine.execSyncLoss elapsed s
  | .freeRunningBlockEvent elapsed => Sys2Proof.Machine.execFreeRunningBlockEvent elapsed s
  | .lockTimeout elapsed => Sys2Proof.Machine.execLockTimeout elapsed s

end Sys2Proof.Machine
end

