-- ==== Sys2Proof/Machine/Step.lean ====
section
/-! DEFINITION. One step of the machine: the command at the front of the queue, or what the part does by itself (DESIGN CHOICE, log entry 1). -/

namespace Sys2Proof.Machine

open Sys2Proof

/-- The state with another queue of commands. -/
def State.withQueue (s : State) (queue : List Instr) : State := { s with pending := queue }

/-- What the part does while no command waits: its own event that is due, or one tick (DESIGN CHOICE, log entry 1). -/
def idleStep (s : State) : Host.Outcome State Fault Refusal :=
  match idleCommand s with
  | some c => exec c s
  | none => .next (tick s)

/-- One step: the command at the front is taken off the queue and executed; on an empty queue the part goes on by itself. -/
def step (s : State) : Host.Outcome State Fault Refusal :=
  match s.pending with
  | c :: rest => exec c (s.withQueue rest)
  | [] => idleStep s

/-- The state with the command that a word spells put at the front of its queue; a word that spells none changes nothing. -/
def State.withFetchWord (s : State) (nbits w : Nat) : State :=
  match decodeTableWord nbits w with
  | some c => s.withQueue (c :: s.pending)
  | none => s

end Sys2Proof.Machine
end

