-- ==== Sys2Proof/WellFormed.lean ====
section
/-! DEFINITION. Which commands are well formed: what the line and the air can carry. `exec` has a meaning for the others too. -/

namespace Sys2Proof

/-- A frame's body has at most 256 bytes (Table 11.1). -/
def bodyFits (body : List Byte) : Bool := body.length ≤ 256

/-- A command is well formed when the request it carries fits a frame (Table 11.1), and a request of an unknown kind has a kind
that is no request kind (R173). -/
def wellFormed (c : Instr) : Bool :=
  match c with
  | .unknownKindRequest kind _ body => !Machine.isRequestKind kind && bodyFits body
  | _ =>
    match Machine.messageOfInstr c with
    | some m => bodyFits m.body
    | none => true

end Sys2Proof
end

