-- ==== Sys2Proof/Safety.lean ====
section
/-! DEFINITION. What a safe state and a safe run are: the laws the spec states of the whole part, and the words that statements
about commands use. Every law is decidable. -/

namespace Sys2Proof.Machine

open Sys2Proof

/-! ### Runs -/

/-- A step is safe when it goes on: the spec gives the part no fault that stops it. -/
abbrev goesOn (o : Host.Outcome State Fault Refusal) : Prop := ∃ t, o = .next t

/-! ### Laws of the state -/

/-- "While the call is IDLE or OPENING, all four stream slots are FREE" (R3). -/
abbrev idleLaw (s : State) : Prop :=
  s.call.state = .idle ∨ s.call.state = .opening → ∀ k : SlotId, s.slots[k].state = .free

/-- Two entries keep the roster's laws: no common address, and no common set id and role (R21). -/
abbrev entriesDiffer (a b : RosterEntry) : Bool :=
  match a.contents, b.contents with
  | some x, some y =>
    x.declared.address != y.declared.address && (x.declared.place == .mono || x.declared.place != y.declared.place)
  | _, _ => true

/-- "No two non-FREE roster entries share an address, and no set id has two entries of the same role" (R21). -/
abbrev rosterLaw (s : State) : Prop := ∀ i j : EntryId, i ≠ j → entriesDiffer s.roster[i] s.roster[j] = true

/-- "At most one roster entry is RESERVED, and one is RESERVED exactly when the pairing context is not IDLE": it is the reserved
entry of the context (R50, Table 3.1). -/
abbrev reservationLaw (s : State) : Prop :=
  (∀ i : EntryId, s.roster[i] = .reserved ↔ s.pair.reservedEntry = some i)
    ∧ (s.pair.state = .idle ↔ s.pair.reservedEntry = none)

/-- "A roster entry is IN_CALL exactly when one non-FREE stream slot refers to it" (R59). -/
abbrev membershipLaw (s : State) : Prop :=
  (∀ k : SlotId, s.slots[k].state = .free ↔ s.slots[k].rosterIndex = none)
    ∧ (∀ i : EntryId, s.roster[i].isInCall = true ↔ ∃ k : SlotId, s.slots[k].rosterIndex = some i)
    ∧ (∀ j k : SlotId, s.slots[j].rosterIndex ≠ none → s.slots[j].rosterIndex = s.slots[k].rosterIndex → j = k)

/-- The candidate list holds at most four records, and "no two candidates with the same address" (R36, Table 3.1). -/
abbrev candidateLaw (s : State) : Prop :=
  s.pair.candidates.length ≤ 4 ∧ (s.pair.candidates.map Candidate.address).Nodup

/-- "The store never holds more than two" blocks (R74, R75). -/
abbrev storeLaw (s : State) : Prop := ∀ k : SlotId, s.stores[k].length ≤ 2

/-- "A receive queue holds at most eight entries. The sequence of each entry is newer than that of every entry before it" (R94).
With it stands what the rule's reasons rest on: the tail's sequence is the last accepted one, and a slot that is not STREAMING
holds no entries (R66, R93). -/
abbrev queueLaw (s : State) : Prop :=
  ∀ k : SlotId,
    s.queues[k].entries.length ≤ 8
      ∧ s.queues[k].entries.Pairwise (fun a b => newer b.sequence a.sequence = true)
      ∧ (s.queues[k].entries ≠ [] → s.slots[k].lastAccepted = s.queues[k].entries.getLast?.map QueueEntry.sequence)
      ∧ (s.slots[k].state ≠ .streaming → s.queues[k].entries = [])

/-- "The accepted-arrival count equals the sum of four quantities: the entries held, the consumed count, the overrun count and the
flushed count", until a count has saturated (R95). With it: a real current frame is the head of the queue (R109). -/
abbrev conservationLaw (s : State) : Prop :=
  ∀ k : SlotId,
    (s.convs[k].current = .real → s.queues[k].entries ≠ [])
      ∧ (s.queues[k].stats.acceptedArrivals < max32 →
        s.queues[k].stats.acceptedArrivals
          = s.queues[k].entries.length + s.queues[k].stats.consumed + s.queues[k].stats.overruns + s.queues[k].stats.flushed)

/-- "The window always holds sixteen" outcomes (R99). -/
abbrev qualityLaw (s : State) : Prop := ∀ k : SlotId, s.queues[k].quality.length = 16

/-- "A stream's base step lies within 2^24 − L .. 2^24 + L of the class limit L" (R106). -/
abbrev baseStepLaw (s : State) : Prop :=
  ∀ k : SlotId,
    16777216 ≤ s.convs[k].baseStep + s.convs[k].classLimit ∧ s.convs[k].baseStep ≤ 16777216 + s.convs[k].classLimit

/-- Every gain of a bank lies in 0..16,384 (R121). -/
abbrev gainsInRange (b : Bank) : Prop := ∀ g ∈ b.gains, g ≤ 16384

/-- "Every gain cell of both banks holds a value in 0..16,384" (R121). -/
abbrev gainLaw (s : State) : Prop := gainsInRange s.mix.active ∧ gainsInRange s.mix.shadow

/-- Whether a voice's members fit its set (R140). -/
abbrev membersFit (v : Voice) : Bool :=
  match v.boundTo with
  | none => v.left == none && v.right == none && v.mono == none
  | some .mono => v.left == none && v.right == none && v.mono != none
  | some (.numbered _) => v.mono == none && (v.left != none || v.right != none) && (v.left == none || v.left != v.right)

/-- "A voice has at most one member of each role, and a stream slot is a member of at most one voice", and a BOUND voice has the
members its set allows (R140). With it: every member is STREAMING (R139). -/
abbrev voiceLaw (s : State) : Prop :=
  (∀ v : VoiceId, membersFit s.voices[v] = true)
    ∧ (∀ k : SlotId, ¬(s.voices[0].hasMember k = true ∧ s.voices[1].hasMember k = true))
    ∧ (∀ (v : VoiceId) (k : SlotId), s.voices[v].hasMember k = true → s.slots[k].state = .streaming)

/-- The fields of a watch stay in the ranges of Table 8.2, and a run that has not fired is below its count (R147, R148, R150). -/
abbrev watchLaw (s : State) : Prop :=
  ∀ j : SinkId,
    s.watches[j].level ≤ 32767 ∧ 1 ≤ s.watches[j].count ∧ s.watches[j].count ≤ 255 ∧ s.watches[j].run ≤ s.watches[j].count
      ∧ (s.watches[j].fired = false → s.watches[j].run < s.watches[j].count)

/-- In SYNCED the words gathered are those of the word places 0 to the word index, which is below N (R151, R152, R155). -/
abbrev gatheringLaw (s : State) : Prop :=
  s.port.state = .synced → s.port.downGathering.length = s.port.wordIndex + 1 ∧ s.port.wordIndex < s.blockSamples

/-- "ATN is asserted while at least one asserted source belongs to a class that is report enabled or wake enabled. It is
deasserted otherwise" (R168). -/
abbrev attentionLaw (s : State) : Prop :=
  s.notices.atn = true
    ↔ ∃ src : SourceId,
      s.notices.records[src].asserted = true
        ∧ (s.notices.classes[s.notices.route[src]].reportEnabled = true
          ∨ s.notices.classes[s.notices.route[src]].wakeEnabled = true)

/-- Every source that an outstanding report lists still belongs to its class, and stays asserted (R162, R164). -/
abbrev reportLaw (s : State) : Prop :=
  ∀ (cls : ClassId) (src : SourceId),
    ((s.notices.outstanding[cls]).getD []).any (fun l => l.source == src) = true →
      s.notices.route[src] = cls ∧ s.notices.records[src].asserted = true

/-- CRDY is inactive at 768 bytes or more and active at 256 or fewer, and the buffer holds at most 1,024 (R170). -/
abbrev flowLaw (s : State) : Prop :=
  (768 ≤ bufferedBytes s.control → s.control.ready = false) ∧ (bufferedBytes s.control ≤ 256 → s.control.ready = true)
    ∧ bufferedBytes s.control ≤ 1024

/-- A request queue of up to four requests and a reply queue of up to four replies (R174). -/
abbrev portQueuesLaw (s : State) : Prop := s.control.requests.length ≤ 4 ∧ s.control.replies.length ≤ 4

/-! ### The words of statements about requests -/

/-- A request can be taken: the reply queue has room, no RESET_SOFT has been taken, and the request stands at the head of the
request queue, or that queue is empty (R174, R176; log entry 4). -/
abbrev takeable (m : Message) (s : State) : Prop :=
  s.control.replies.length < 4 ∧ s.control.softReset = .notAsked
    ∧ (s.control.requests = [] ∨ s.control.requests.head? = some m)

/-- The state `s` after a request has left the request queue and its reply has entered the reply queue (R174). -/
abbrev replied (kind tag : Byte) (body : List Byte) (s : State) : State :=
  { s with
    control := { s.control with
      requests := s.control.requests.tail, replies := s.control.replies ++ [⟨kind, tag, body⟩] } }

/-- The kind of the reply to a request: its kind plus 0x80, or 0x80 for an unknown kind (Table 11.1). -/
abbrev replyKind (kind : Byte) : Byte := if isRequestKind kind then kind + 0x80 else 0x80

/-- Whether a body has a size that Table 11.2 gives its request's kind. -/
abbrev bodySizeFits (m : Message) : Bool :=
  match m.kind.toNat with
  | 0x03 => m.body.length == 4
  | 0x07 => m.body.length == 29
  | 0x08 => m.body.length == 1
  | 0x09 => m.body.length == 1
  | 0x0A => m.body.length == 1
  | 0x0B => m.body.length == 1
  | 0x0C => m.body.length == 1
  | 0x0E => m.body.length == 1
  | 0x0F => m.body.length == 1
  | 0x10 => m.body.length == 3
  | 0x11 => m.body.length % 4 == 0 && 4 ≤ m.body.length && m.body.length ≤ 96
  | 0x13 => m.body.length == 1
  | 0x14 => m.body.length == 4
  | 0x15 => m.body.length == 5
  | 0x16 => m.body.length == 2
  | 0x17 => m.body.length == 1
  | 0x18 => m.body.length == 2
  | 0x19 => m.body.length == 3
  | 0x1A => m.body.length == 1
  | 0x1C => m.body.length == 1
  | _ => m.body.length == 0

/-! ### The words of statements about pairing -/

/-- The use of the slot in progress once a handshake has ended: a pairing turn serves no later one (log entry 30). -/
abbrev useAfterHandshake (use : SlotUse) : SlotUse :=
  match use with
  | .turn _ _ => .idle
  | other => other

/-- `t` is `s` after the pairing has failed with a reason, the time base standing at `now`: the reservation released, a
computation in flight discarded, every field of the context but the window at its reset value, and PAIR_EVENT FAILED raised (R47).
Nothing else has changed, but that a turn in progress serves no handshake any more (log entry 30). -/
abbrev pairingFailedAt (now : Tick) (reason : FailReason) (s t : State) : Prop :=
  t = { s with
    roster := match s.pair.reservedEntry with
      | some i => s.roster.set i .free
      | none => s.roster
    pair := { PairContext.reset with window := s.pair.window }
    keyUnit := ⟨s.keyUnit.running.map fun k => { k with discarded := true }, none⟩
    air := { s.air with timeBase := now, use := useAfterHandshake s.air.use }
    notices := s.notices.occur Source.pairEvent none 4 reason.code }

/-- `t` is `s` after the pairing has failed with a reason, in an event that lets no time pass (R47). -/
abbrev pairingFailed (reason : FailReason) (s t : State) : Prop := pairingFailedAt s.air.timeBase reason s t

/-- The time base once it has reached the time `offset` ticks after the start of the slot in progress (log entry 32). -/
abbrev timeFrom (offset : Tick) (a : AirState) : Tick :=
  if (a.timeBase - (a.anchor + offset)).toNat < 2 ^ 31 then a.timeBase else a.anchor + offset

/-- The slot in progress is in its second half: 2,000 ticks have passed since its start (R34). -/
abbrev inSecondHalf (s : State) : Prop := (s.air.timeBase - (s.air.anchor + 2000)).toNat < 2 ^ 31

/-- A frame of the partner in the second half of a turn that began in `began` (R34, R48, R56). -/
abbrev partnerTurn (began : PairState) (h : AirHeader) (s : State) : Prop :=
  s.air.use = .turn began false ∧ inSecondHalf s ∧ s.pair.endPending = none ∧ h.destination = Config.partAddress
    ∧ s.pair.partner.map Candidate.address = some h.source

/-! ### The words of statements about stream slots -/

/-- A frame addressed to the part by the earbud whose roster entry slot `k` refers to (R56). -/
abbrev fromEarbud (k : SlotId) (h : AirHeader) (s : State) : Prop :=
  h.destination = Config.partAddress
    ∧ ∃ (i : EntryId) (held : Contents),
      s.slots[k].rosterIndex = some i ∧ s.roster[i].contents = some held ∧ held.declared.address = h.source

/-- The state `s` with slot `k` FREE, its fields at their values of Table 4.3, and its entry BONDED (R59). -/
abbrev slotFreed (k : SlotId) (s : State) : State :=
  { s with
    slots := s.slots.set k StreamSlot.reset
    roster := match s.slots[k].rosterIndex with
      | some i => s.roster.set i (match s.roster[i] with
        | .inCall held => .bonded held
        | other => other)
      | none => s.roster }

/-- Slot `k`'s becoming FREE completes a closing: the call is CLOSING and every other slot is FREE (R14). -/
abbrev completesClosing (k : SlotId) (s : State) : Prop :=
  s.call.state = .closing ∧ ∀ j : SlotId, j ≠ k → s.slots[j].state = .free

/-- What the completion of a closing does beside the slots and the call: the port stopped but for its last block event time, every
converter at its starting state but for class limit, base step and last measured step, the stores empty, and a pending commit carried
out with COMMIT_DONE AT_ONCE (R14, R101, R124, R158; the zeros of the last output block by log entry 22). -/
abbrev closingDone (s t : State) : Prop :=
  t.port = { PortRecord.reset with lastBlockEventTime := s.port.lastBlockEventTime }
    ∧ (∀ j : SlotId, t.stores[j] = [])
    ∧ (∀ j : SlotId, t.convs[j]
      = { Converter.starting s.convs[j].classLimit s.call.rate.samples with
        baseStep := s.convs[j].baseStep, lastMeasured := s.convs[j].lastMeasured })
    ∧ t.mix = (if s.mix.commitPending then { s.mix with active := s.mix.shadow, commitPending := false } else s.mix)
    ∧ t.notices.records[Source.commitDone] = (if s.mix.commitPending then
        ⟨true, saturatingSucc 255 s.notices.records[Source.commitDone].occurrences,
          s.notices.records[Source.commitDone].indexSet, 1, 0⟩
      else s.notices.records[Source.commitDone])

/-- An UP has its N samples exactly when its NO_MIC flag is clear (R57). -/
abbrev upFits (f : UpFrame) (s : State) : Prop :=
  f.noMic = f.samples.isNone ∧ ∀ samples, f.samples = some samples → samples.length = s.call.rate.samples

/-- The state `s` once an UP has been taken for slot `k`: heard, and a down miss counted when its down-ack is no (R65). -/
abbrev upHeard (k : SlotId) (f : UpFrame) (s : State) : State :=
  { s with
    slots := s.slots.set k { s.slots[k] with heard := true }
    queues := if f.downAck then s.queues else s.queues.set k
      { s.queues[k] with
        stats := { s.queues[k].stats with downMisses := saturatingSucc max32 s.queues[k].stats.downMisses } } }

/-- The member that a voice keeps when slot `k` is removed from it: LEFT, else RIGHT, else MONO (R139). -/
abbrev remainingMember (k : SlotId) (v : Voice) : Option SlotId :=
  (if v.left = some k then none else v.left).or
    ((if v.right = some k then none else v.right).or (if v.mono = some k then none else v.mono))

/-- Voice `v` after the removal of slot `k`: passed over when it is no member; FREE when it was the last; else the remaining member
stays, and takes the winner's place when `k` was the winner (R139). -/
abbrev voiceWithout (k : SlotId) (v : Voice) : Voice :=
  if v.left = some k ∨ v.right = some k ∨ v.mono = some k then
    { v with
      boundTo := if remainingMember k v = none then none else v.boundTo
      left := if v.left = some k then none else v.left
      right := if v.right = some k then none else v.right
      mono := if v.mono = some k then none else v.mono
      winner := if remainingMember k v = none then none else if v.winner = some k then remainingMember k v else v.winner
      sinceSwitch := if remainingMember k v = none ∨ v.winner = some k then 0 else v.sinceSwitch }
  else v

/-- Whether the removal of slot `k` from voice `v` switches its winner (R139). -/
abbrev switchesWinner (k : SlotId) (v : Voice) : Prop :=
  (v.left = some k ∨ v.right = some k ∨ v.mono = some k) ∧ remainingMember k v ≠ none ∧ v.winner = some k

/-- What leaving STREAMING leaves of slot `k`'s stream: the queue flushed, the window abandoned and the record cleared, the store
empty, the slot removed from its voice with VOICE_SWITCH ABSENCE when it was the winner (R66, R93, R101, R139); the other streams
stand. -/
abbrev streamEnded (k : SlotId) (s t : State) : Prop :=
  t.queues = s.queues.set k
      { s.queues[k] with
        state := .stopped, entries := [], quiet := 0, arrival := false,
        stats := { s.queues[k].stats with
          flushed := min max32 (s.queues[k].stats.flushed + s.queues[k].entries.length) } }
    ∧ t.convs = s.convs.set k
      { s.convs[k] with
        windowOpen := false, firstPoint := none, lastPoint := none, pointCount := 0, current := .none, follower := .none,
        fillSource := none, fillPending := 0, freshStartPending := false, edgeState := .notInForce }
    ∧ t.stores = s.stores.set k []
    ∧ (∀ v : VoiceId, t.voices[v] = voiceWithout k s.voices[v])
    ∧ ((∃ v : VoiceId, switchesWinner k s.voices[v]) →
      t.notices.records[Source.voiceSwitch].asserted = true ∧ t.notices.records[Source.voiceSwitch].latestCode = 2)

/-- Everything that neither the streams nor the notices hold stands: the call, the time, pairing, the mix, the watches, the two
ports. -/
abbrev restStands (s t : State) : Prop :=
  t.call = s.call ∧ t.air = s.air ∧ t.pair = s.pair ∧ t.keyUnit = s.keyUnit ∧ t.mix = s.mix ∧ t.watches = s.watches
    ∧ t.port = s.port ∧ t.control = s.control ∧ t.draws = s.draws ∧ t.pending = s.pending

/-- Everything that the start of a slot does not reach stands. -/
abbrev besideAirStands (s t : State) : Prop :=
  t.call = s.call ∧ t.roster = s.roster ∧ t.keyUnit = s.keyUnit ∧ t.convs = s.convs ∧ t.mix = s.mix ∧ t.voices = s.voices
    ∧ t.watches = s.watches ∧ t.port = s.port ∧ t.control = s.control ∧ t.draws = s.draws ∧ t.pending = s.pending

/-- The Air Scheduler once slot `n` of the present interval has begun, put to `use`, with `sent` on the air: the time base is at the
slot's start, or past it, and its start is latched (R54, R55). -/
abbrev slotBegun (n : Fin 10) (use : SlotUse) (sent : Option AirFrame) (a : AirState) : AirState :=
  { a with
    timeBase := if (a.timeBase - (40000 * a.interval + BitVec.ofNat 32 (4000 * n.val))).toNat < 2 ^ 31 then a.timeBase
      else 40000 * a.interval + BitVec.ofNat 32 (4000 * n.val)
    slot := some n, anchor := 40000 * a.interval + BitVec.ofNat 32 (4000 * n.val), use := use, sent := sent }

/-! ### The words of statements about the Call Port -/

/-- The state `s` once `elapsed` ticks have passed (R53). -/
abbrev later (elapsed : Tick) (s : State) : State :=
  { s with air := { s.air with timeBase := s.air.timeBase + elapsed } }

/-- A word on the line as a sample, and a sample as its word: in SWAPPED order the two bytes change places (R152). -/
abbrev lineOrder (o : ByteOrder) (w : BitVec 16) : BitVec 16 :=
  match o with
  | .normal => w
  | .swapped => BitVec.ofNat 16 (w.toNat % 256 * 256 + w.toNat / 256)

/-- The word driven in the call's word place and in no other (R152). -/
abbrev callPlace (p : WordPosition) (w : BitVec 16) : LineWords :=
  match p with
  | .first => ⟨some w, none⟩
  | .second => ⟨none, some w⟩

/-- The downlink sample of a PCM frame whose two words are given (R152). -/
abbrev downWord (c : CallRecord) (first second : BitVec 16) : Sample :=
  lineOrder c.byteOrder (match c.wordPosition with
    | .first => first
    | .second => second)

/-- The good spacings of a call rate (the table of R153). -/
abbrev spacingIsGood (r : CallRate) (spacing : Nat) : Prop :=
  match r with
  | .hz8000 => 485 ≤ spacing ∧ spacing ≤ 515
  | .hz16000 => 243 ≤ spacing ∧ spacing ≤ 257
  | .hz32000 => 122 ≤ spacing ∧ spacing ≤ 128

/-! ### The words of statements about block events -/

/-- The accumulator of sample `i`: the sum, over the sources present, of the source's sample times its gain (R128, step 1). -/
abbrev gainedSum (terms : List (List Sample × Nat)) (i : Nat) : Int :=
  (terms.map fun t => (t.1.getD i 0).toInt * (t.2 : Int)).sum

/-- Whether source `src` was raised between `s` and `t` by a cause, with one of some codes: with the cause it is asserted and its
latest code is one of them, and without it its record stands (R160). -/
abbrev raisedBy (src : SourceId) (codes : List Byte) (cause : Prop) (s t : State) : Prop :=
  (cause → t.notices.records[src].asserted = true ∧ t.notices.records[src].latestCode ∈ codes)
    ∧ (¬cause → t.notices.records[src] = s.notices.records[src])

/-- The sources of a block with the downlink `down`, the queues standing at `queues` once the streams have been converted: the
outputs of the STREAMING streams, and the voices formed from them (R118, R127, R142). -/
abbrev blockHas (down : List Sample) (queues : Vector RxQueue 4) (src : Sources) (s : State) : Prop :=
  src.down = down
    ∧ (∀ k : SlotId, src.outputs[k] = if s.slots[k].state = .streaming then
        (convertBlock s.call.rate.samples s.convs[k] s.queues[k]).output else none)
    ∧ src.v0 = (formVoice queues src.outputs s.voices[0]).samples ∧ src.v1 = (formVoice queues src.outputs s.voices[1]).samples

/-- The UP sink's final block in a block event that finds the part in `s`, its sources `src` mixed by the bank `t` holds: zeros
while the call is HELD or LOST out of HELD, else the sink's block (R128, R131, R133). -/
abbrev upOfBlock (src : Sources) (s t : State) : List Sample :=
  if s.call.state = .held ∨ (s.call.state = .lost ∧ s.call.resumeTo = .held) then List.replicate s.call.rate.samples 0
  else sinkBlock s.call.rate.samples 0 (upTerms src t.mix.active) t

/-- The block of earbud sink `Ek` in the same event (R128, R131). -/
abbrev earOfBlock (src : Sources) (k : SlotId) (s t : State) : List Sample :=
  sinkBlock s.call.rate.samples (earSink k) (earTerms src k t.mix.active) t

/-- The clamped samples of a sink of the same event, whose terms are `terms`: those whose mixed value lies outside −32768..32767,
and none while the sink is muted (R128, R130, R131). -/
abbrev clampsOfBlock (j : SinkId) (terms : List Term) (s t : State) : Nat :=
  if t.mix.active.mutes[j] then 0
  else ((List.range s.call.rate.samples).filter fun i =>
    (gainedSum (terms.map fun x => (x.samples, x.gain)) i + 2048) / 4096 < -32768
      ∨ 32767 < (gainedSum (terms.map fun x => (x.samples, x.gain)) i + 2048) / 4096).length

/-- A count of 0..2^32 − 1 once `k` has been added to it, saturating; nothing added leaves it (R130). -/
abbrev countedOn (k count : Nat) : Nat := if k = 0 then count else min max32 (count + k)

/-- What a block event raises: QUEUE_STARVED for a queue that starves, VOICE_SWITCH for a winner switched, SINK_CLAMP for clamps of
a sink that reports them, DOWN_SLIP for a full store, WATCH for a watch that fires, COMMIT_DONE for a commit (R74, R89, R125, R130,
R144, R148). Beside them only CALL_STATE may change, by the event's effect on the call. -/
abbrev blockRaised (src : Sources) (s t : State) : Prop :=
  raisedBy Source.queueStarved [1] (∃ k : SlotId, s.slots[k].state = .streaming
      ∧ (convertBlock s.call.rate.samples s.convs[k] s.queues[k]).starved = true) s t
    ∧ raisedBy Source.voiceSwitch [1, 2] (∃ v : VoiceId, (formVoice t.queues src.outputs s.voices[v]).switch ≠ none) s t
    ∧ raisedBy Source.sinkClamp [1]
      ((clampsOfBlock 0 (upTerms src t.mix.active) s t ≠ 0 ∧ s.mix.clampReport[(0 : SinkId)] = true)
        ∨ ∃ k : SlotId, s.slots[k].state = .streaming ∧ clampsOfBlock (earSink k) (earTerms src k t.mix.active) s t ≠ 0
          ∧ s.mix.clampReport[earSink k] = true) s t
    ∧ raisedBy Source.downSlip [1] (∃ k : SlotId, s.slots[k].state = .streaming ∧ 2 ≤ s.stores[k].length) s t
    ∧ raisedBy Source.watch [1, 2] (∃ j : SinkId, s.watches[j].fired = false ∧ t.watches[j].fired = true) s t
    ∧ (s.mix.commitPending = true → t.notices.records[Source.commitDone]
      = ⟨true, saturatingSucc 255 s.notices.records[Source.commitDone].occurrences,
        s.notices.records[Source.commitDone].indexSet, 2, s.call.blockNumber⟩)
    ∧ (s.mix.commitPending = false → t.notices.records[Source.commitDone] = s.notices.records[Source.commitDone])
    ∧ ∀ other : SourceId, other ∉ [Source.callState, Source.queueStarved, Source.voiceSwitch, Source.sinkClamp, Source.downSlip,
      Source.watch, Source.commitDone] → t.notices.records[other] = s.notices.records[other]

/-- What every block event with the downlink `down` does outside the Call Port and the call record: the STREAMING streams are
converted once, the voices formed from their outputs, a pending commit is copied, the sinks mixed by it, their clamps counted, `up`
handed to UP's watch, each earbud sink's block to its watch and, under the number of the block, to its store; and the rest stands
(R74, R118, R125, R127, R130, R132, R142, R147). -/
abbrev blockFormed (down up : List Sample) (s t : State) : Prop :=
  ∃ src : Sources, blockHas down t.queues src s
    ∧ up = upOfBlock src s t
    ∧ (∀ k : SlotId, s.slots[k].state = .streaming →
      t.queues[k] = (convertBlock s.call.rate.samples s.convs[k] s.queues[k]).queue
        ∧ t.convs[k] = (convertBlock s.call.rate.samples s.convs[k] s.queues[k]).conv
        ∧ t.stores[k] = (if 2 ≤ s.stores[k].length then s.stores[k].tail else s.stores[k])
          ++ [⟨s.call.blockNumber, earOfBlock src k s t⟩]
        ∧ t.mix.clampCount[earSink k]
          = countedOn (clampsOfBlock (earSink k) (earTerms src k t.mix.active) s t) s.mix.clampCount[earSink k]
        ∧ t.watches[earSink k] = (handToWatch (earSink k) (earOfBlock src k s t) s).watches[earSink k])
    ∧ (∀ k : SlotId, s.slots[k].state ≠ .streaming →
      t.queues[k] = s.queues[k] ∧ t.convs[k] = s.convs[k] ∧ t.stores[k] = s.stores[k]
        ∧ t.mix.clampCount[earSink k] = s.mix.clampCount[earSink k] ∧ t.watches[earSink k] = s.watches[earSink k])
    ∧ (∀ v : VoiceId, t.voices[v] = (formVoice t.queues src.outputs s.voices[v]).voice)
    ∧ t.mix.active = (if s.mix.commitPending then s.mix.shadow else s.mix.active)
    ∧ t.mix.shadow = s.mix.shadow ∧ t.mix.commitPending = false ∧ t.mix.clampReport = s.mix.clampReport
    ∧ t.mix.clampCount[(0 : SinkId)]
      = countedOn (clampsOfBlock 0 (upTerms src t.mix.active) s t) s.mix.clampCount[(0 : SinkId)]
    ∧ t.watches[(0 : SinkId)] = (handToWatch 0 up s).watches[(0 : SinkId)]
    ∧ blockRaised src s t
    ∧ t.notices.route = s.notices.route ∧ t.notices.classes = s.notices.classes
    ∧ t.notices.outstanding = s.notices.outstanding
    ∧ t.roster = s.roster ∧ t.pair = s.pair ∧ t.keyUnit = s.keyUnit ∧ t.slots = s.slots ∧ t.control = s.control
    ∧ t.draws = s.draws ∧ t.pending = s.pending

/-! ### The words of statements about the closing -/

/-- No slot stays in use at the entry to CLOSING: each is FREE or JOINING (R13). -/
abbrev noSlotStays (s : State) : Prop := ∀ k : SlotId, s.slots[k].state = .free ∨ s.slots[k].state = .joining

/-- `t` is `s` once CLOSING has been entered with a reason: JOINING slots FREE with their entries BONDED and JOIN_RESULT CALL_CLOSED,
STREAMING ones LEAVING with their streams ended, and CALL_STATE raised (R13, R59, R66, R93, R101, R139); with no slot left in use the
closing completes in the same event: IDLE, the port stopped, the converters at their starting state, the stores empty, a pending
commit carried out with COMMIT_DONE AT_ONCE, CALL_STATE raised again (R14). The slots are taken from 0 to 3 (log entry 37). -/
abbrev closingEntered (reason : CloseReason) (s t : State) : Prop :=
  (noSlotStays s → t.call = { s.call with state := .idle, closeReason := reason })
    ∧ (¬noSlotStays s → t.call = { s.call with state := .closing, closeReason := reason })
    ∧ (∀ k : SlotId, t.slots[k] = (match s.slots[k].state with
        | .free => s.slots[k]
        | .joining => StreamSlot.reset
        | .streaming => { s.slots[k] with
            state := .leaving, intervalCount := 0, carried := .nothing, lastSent := none, retryCandidate := false }
        | .leaving => s.slots[k]))
    ∧ (∀ k : SlotId, s.slots[k].state = .streaming →
        t.queues[k] = { s.queues[k] with
            state := .stopped, entries := [], quiet := 0, arrival := false,
            stats := { s.queues[k].stats with
              flushed := min max32 (s.queues[k].stats.flushed + s.queues[k].entries.length) } }
          ∧ t.convs[k] = { s.convs[k] with
            windowOpen := false, firstPoint := none, lastPoint := none, pointCount := 0, current := .none, follower := .none,
            fillSource := none, fillPending := 0, freshStartPending := false, edgeState := .notInForce }
          ∧ t.stores[k] = [])
    ∧ (∀ k : SlotId, s.slots[k].state ≠ .streaming → t.queues[k] = s.queues[k])
    ∧ (¬noSlotStays s → t.port = s.port ∧ t.mix = s.mix
      ∧ t.notices.records[Source.commitDone] = s.notices.records[Source.commitDone]
      ∧ ∀ k : SlotId, s.slots[k].state ≠ .streaming → t.convs[k] = s.convs[k] ∧ t.stores[k] = s.stores[k])
    ∧ (noSlotStays s → closingDone s t ∧ t.voices = s.voices)
    ∧ (∀ i : EntryId, (∀ k : SlotId, s.slots[k].state = .joining → s.slots[k].rosterIndex ≠ some i) →
        t.roster[i] = s.roster[i])
    ∧ (∀ i : EntryId, (∃ k : SlotId, s.slots[k].state = .joining ∧ s.slots[k].rosterIndex = some i) →
        t.roster[i] = (match s.roster[i] with
          | .inCall held => .bonded held
          | other => other))
    ∧ (∀ j : SlotId, t.notices.records[Source.joinResult].indexSet.getLsbD j.val
        = (s.notices.records[Source.joinResult].indexSet.getLsbD j.val || s.slots[j].state == .joining))
    ∧ ((∀ k : SlotId, s.slots[k].state ≠ .joining) →
        t.notices.records[Source.joinResult] = s.notices.records[Source.joinResult])
    ∧ (∀ k : SlotId, s.slots[k].state = .joining → (∀ j : SlotId, k < j → s.slots[j].state ≠ .joining) →
        t.notices.records[Source.joinResult].asserted = true ∧ t.notices.records[Source.joinResult].latestCode = 7
          ∧ t.notices.records[Source.joinResult].latestValue = BitVec.ofNat 32 k)
    ∧ (∀ v : VoiceId, t.voices[v] = ([0, 1, 2, 3] : List SlotId).foldl
        (fun voice k => if s.slots[k].state = .streaming then voiceWithout k voice else voice) s.voices[v])
    ∧ (∀ (v : VoiceId) (k : SlotId), s.slots[k].state = .streaming → switchesWinner k s.voices[v] →
        (∀ j : SlotId, j < k → s.slots[j].state = .streaming → s.voices[v].hasMember j = false) →
          t.notices.records[Source.voiceSwitch].asserted = true ∧ t.notices.records[Source.voiceSwitch].latestCode = 2)
    ∧ ((∀ (v : VoiceId) (k : SlotId), s.slots[k].state = .streaming → s.voices[v].winner ≠ some k) →
        t.notices.records[Source.voiceSwitch] = s.notices.records[Source.voiceSwitch])
    ∧ t.notices.records[Source.callState]
      = ⟨true, if t.call.state = .idle
            then saturatingSucc 255 (saturatingSucc 255 s.notices.records[Source.callState].occurrences)
            else saturatingSucc 255 s.notices.records[Source.callState].occurrences,
          s.notices.records[Source.callState].indexSet, if t.call.state = .idle then 0 else 5, reason.code.zeroExtend 32⟩
    ∧ (∀ other : SourceId, other ∉ [Source.callState, Source.joinResult, Source.voiceSwitch, Source.commitDone] →
        t.notices.records[other] = s.notices.records[other])
    ∧ t.notices.route = s.notices.route ∧ t.notices.classes = s.notices.classes
    ∧ t.notices.outstanding = s.notices.outstanding
    ∧ t.air = s.air ∧ t.pair = s.pair ∧ t.keyUnit = s.keyUnit ∧ t.watches = s.watches ∧ t.control = s.control
    ∧ t.draws = s.draws ∧ t.pending = s.pending

/-! ### The words of statements about rate conversion -/

/-- The samples of an entry: N zeros when its NO_MIC is set (R109). -/
abbrev entrySound (n : Nat) (e : QueueEntry) : List Sample :=
  if e.noMic then List.replicate n 0 else e.samples.getD (List.replicate n 0)

/-- The samples of a frame, a real one being `e` (R109, R112). -/
abbrev frameSound (n : Nat) (f : InFrame) (e : Option QueueEntry) : List Sample :=
  match f with
  | .none => []
  | .real => (e.map (entrySound n)).getD []
  | .fill samples => samples

/-- Whether a frame is a fill frame. -/
abbrev isFillFrame (f : InFrame) : Bool :=
  match f with
  | .fill _ => true
  | _ => false

/-- The current frame finished: a real entry leaves the head of the queue and is counted as consumed, a fill frame is dropped (R88,
R109). -/
abbrev currentFinished (r : Reader) : Reader :=
  { r with
    conv := { r.conv with current := .none }
    queue := if r.conv.current = .real then
        { r.queue with
          entries := r.queue.entries.tail
          stats := { r.queue.stats with consumed := saturatingSucc max32 r.queue.stats.consumed } }
      else r.queue }

/-- The queue starved: the current frame finished, no frame and no fill source left, the edge frozen where it stands, the concealment
run advanced, the queue STARVED with quiet count 0 (R89, R113). -/
abbrev queueStarved (r : Reader) : Reader :=
  { currentFinished r with
    conv := { r.conv with
      current := .none, follower := .none, fillSource := none, fillPending := 0, edgeState := .frozen,
      concealmentRun := saturatingSucc 4 r.conv.concealmentRun }
    queue := { (currentFinished r).queue with state := .starved, quiet := 0, arrival := false }
    starved := true }

/-- One more output sample, of starvation concealment: the last output block's sample at its place divided by 2 toward zero, or 0
at the fourth block in a row (R113). -/
abbrev concealedSample (r : Reader) : Reader :=
  { r with
    outReversed := (if r.conv.concealmentRun < 4
      then BitVec.ofInt 16 ((r.conv.lastOutput.getD r.outReversed.length 0).toInt.tdiv 2) else 0) :: r.outReversed }

/-- `ready` is `r` once the frames of its next output sample are at hand: standing between frames, the follower or the frame chosen is
entered, and at the last sample of a frame a follower is chosen; where no frame can be had the queue starves (R109, R110, R113). -/
abbrev framesAtHand (n : Nat) (r ready : Reader) : Prop :=
  ∃ stands : Reader,
    (r.conv.current ≠ .none → stands = r)
    ∧ (r.conv.current = .none →
      (r.conv.follower ≠ .none → stands = enterFrame n r.conv.follower r)
      ∧ (r.conv.follower = .none →
        (chooseNext n r = none → stands = queueStarved r)
        ∧ ∀ (f : InFrame) (chosen : Reader), chooseNext n r = some (f, chosen) → stands = enterFrame n f chosen))
    ∧ ((stands.starved = true ∨ stands.conv.index + 1 < n ∨ stands.conv.follower ≠ .none) → ready = stands)
    ∧ (stands.starved = false → n ≤ stands.conv.index + 1 → stands.conv.follower = .none →
      (chooseNext n stands = none → ready = queueStarved stands)
      ∧ ∀ (f : InFrame) (chosen : Reader), chooseNext n stands = some (f, chosen) →
        ready = { chosen with conv := { chosen.conv with follower := f } })

/-- The read position advanced by the applied step: F keeps the remainder and j takes the whole samples; past the frame's last
sample the frame is finished, j is N less, and a chosen follower is entered (R109). -/
abbrev positionAdvanced (n step : Nat) (r : Reader) : Reader :=
  let j := r.conv.index + (r.conv.fraction + step) / 16777216
  let f := (r.conv.fraction + step) % 16777216
  if j < n then { r with conv := { r.conv with index := j, fraction := f } }
  else
    let finished := currentFinished { r with conv := { r.conv with index := j - n, fraction := f } }
    if r.conv.follower = .none then finished else enterFrame n r.conv.follower finished

/-- `t` is `r` with one more output sample: concealment once the queue has starved in the block, else the interpolation between
x(j) and x(j + 1), each of its own frame, after which the read position advances (R109, R113, R116). -/
abbrev sampleFormed (n step : Nat) (r t : Reader) : Prop :=
  (r.starved = true → t = concealedSample r)
  ∧ (r.starved = false →
    ∃ ready : Reader, framesAtHand n r ready
      ∧ (ready.starved = true → t = concealedSample ready)
      ∧ (ready.starved = false → ∀ x0 x1 : Sample,
        x0 = (frameSound n ready.conv.current ready.queue.entries.head?).getD ready.conv.index 0 →
        x1 = (if ready.conv.index + 1 < n
          then (frameSound n ready.conv.current ready.queue.entries.head?).getD (ready.conv.index + 1) 0
          else (frameSound n ready.conv.follower (nextUnentered ready.conv ready.queue)).getD 0 0) →
          t = positionAdvanced n step
            { ready with
              outReversed := interpolate x0 x1 ready.conv.fraction :: ready.outReversed
              usedFill := ready.usedFill || isFillFrame ready.conv.current
                || (decide (n ≤ ready.conv.index + 1) && isFillFrame ready.conv.follower) }))

/-- The reader with which a block read in PLAYING begins, its applied step being `step`: with a fresh start pending, the head entry is
entered at sample 0 with F 0, the edge MOVING at its end, and a resync counted where the edge was FROZEN off the head's stamp (R114);
with no head only the pending start is dropped (log entry 28). -/
abbrev blockBegun (n step : Nat) (c : Converter) (q : RxQueue) : Reader :=
  if c.freshStartPending then
    match q.entries with
    | [] => ⟨{ c with appliedStep := step, freshStartPending := false }, q, [], false, false⟩
    | e :: _ =>
      ⟨{ c with
          appliedStep := step, current := .real, index := 0, fraction := 0, follower := .none, fillPending := 0,
          fillSource := some (entrySound n e), claimedEdge := e.stamp + BitVec.ofNat 32 n, edgeState := .moving,
          freshStartPending := false },
        { q with
          stats := { q.stats with
            resyncs := if c.edgeState = .frozen ∧ e.stamp ≠ c.claimedEdge then saturatingSucc max32 q.stats.resyncs
              else q.stats.resyncs } },
        [], false, false⟩
  else ⟨{ c with appliedStep := step }, q, [], false, false⟩

/-! ### The words of statements about spare slots -/

/-- What the denials of slot 9 tell: with none the notices stand; else RETRY_DENIED is raised for each denied slot with a code, which
adds the slot to its index set, the latest value being the highest (log entry 39), and every other record stands (R73). -/
abbrev denialsTold (code : Byte) (denied : SlotId → Bool) (s t : State) : Prop :=
  ((∀ k : SlotId, denied k = false) → t.notices = s.notices)
  ∧ (∀ k : SlotId, denied k = true → (∀ j : SlotId, k < j → denied j = false) →
    t.notices.records[Source.retryDenied].asserted = true ∧ t.notices.records[Source.retryDenied].latestCode = code
      ∧ t.notices.records[Source.retryDenied].latestValue = BitVec.ofNat 32 k)
  ∧ (∀ j : SlotId, t.notices.records[Source.retryDenied].indexSet.getLsbD j.val
    = (s.notices.records[Source.retryDenied].indexSet.getLsbD j.val || denied j))
  ∧ (s.notices.records[Source.retryDenied].occurrences ≤ 255 → t.notices.records[Source.retryDenied].occurrences
    = min 255 (s.notices.records[Source.retryDenied].occurrences + (List.finRange 4).countP denied))
  ∧ (∀ other : SourceId, other ≠ Source.retryDenied → t.notices.records[other] = s.notices.records[other])
  ∧ t.notices.route = s.notices.route ∧ t.notices.classes = s.notices.classes
  ∧ t.notices.outstanding = s.notices.outstanding

/-! ### The words of statements about mixing -/

/-- A gain after the last of the gains a list of items gives its cell, clamped; the old gain when no item names it (R123). -/
abbrev lastGain (given : List Nat) (old : Nat) : Nat :=
  match given.getLast? with
  | some g => min 16384 g
  | none => old

/-- The number of a mix source: its position in V0, V1, DOWN, OWN (R122, R173). -/
abbrev mixSourceNumber (source : MixSource) : Byte :=
  match source with
  | .v0 => 0
  | .v1 => 1
  | .down => 2
  | .own => 3

/-- The four bytes of a MIX_SET item (R173). -/
abbrev itemBytes (item : MixItem) : List Byte :=
  match item with
  | .upCell source gain => [0, mixSourceNumber source, BitVec.ofNat 8 gain, BitVec.ofNat 8 (gain / 256)]
  | .earCell k source gain => [BitVec.ofNat 8 (k.val + 1), mixSourceNumber source, BitVec.ofNat 8 gain, BitVec.ofNat 8 (gain / 256)]
  | .mute sink on => [BitVec.ofNat 8 sink.val, 255, if on then 1 else 0, 0]

/-- Whether the clamp changes an item's gain (R123). -/
abbrev itemOver (item : MixItem) : Bool :=
  match item with
  | .upCell _ gain => 16384 < gain
  | .earCell _ _ gain => 16384 < gain
  | .mute _ _ => false

/-- An item that MIX_SET can carry and accepts: a gain field of two bytes, and not the cell UP ← OWN (R122). -/
abbrev itemFits (item : MixItem) : Prop :=
  match item with
  | .upCell source gain => source ≠ .own ∧ gain < 65536
  | .earCell _ _ gain => gain < 65536
  | .mute _ _ => True

/-! ### The words of statements about notices -/

/-- ATN after any event that settles it: asserted while an asserted source belongs to a report or wake enabled class (R168). -/
abbrev attentionDue (records : Vector SourceRecord 15) (route : Vector ClassId 15) (classes : Vector ClassSettings 4) : Prop :=
  ∃ src : SourceId,
    records[src].asserted = true ∧ (classes[route[src]].reportEnabled = true ∨ classes[route[src]].wakeEnabled = true)

/-- The sources a report of a class lists: those asserted, in source-number order (R164). -/
abbrev reportedSources (cls : ClassId) (n : Notices) : List SourceId :=
  (List.finRange 15).filter fun src => n.records[src].asserted && n.route[src] == cls

/-- The body of a report: the class, the number of records, and eight bytes of each record (R164, Table 11.4). -/
abbrev reportBytes (cls : ClassId) (n : Notices) : List Byte :=
  [BitVec.ofNat 8 cls.val, BitVec.ofNat 8 (reportedSources cls n).length]
    ++ (reportedSources cls n).flatMap fun (src : SourceId) =>
      [BitVec.ofNat 8 src.val, BitVec.ofNat 8 n.records[src].occurrences, n.records[src].indexSet, n.records[src].latestCode,
        n.records[src].latestValue.extractLsb' 0 8, n.records[src].latestValue.extractLsb' 8 8,
        n.records[src].latestValue.extractLsb' 16 8, n.records[src].latestValue.extractLsb' 24 8]

/-- `m` is `n` after a report of a class: for each source listed, occurrences 0 and an empty index set, and the class has the
outstanding report; the rest stands (R164). -/
abbrev reportMade (cls : ClassId) (n m : Notices) : Prop :=
  (∀ src : SourceId, m.records[src]
      = if src ∈ reportedSources cls n then { n.records[src] with occurrences := 0, indexSet := 0 } else n.records[src])
    ∧ m.outstanding = n.outstanding.set cls (some ((reportedSources cls n).map fun src => ⟨src, n.records[src].indexSet⟩))
    ∧ m.route = n.route ∧ m.classes = n.classes ∧ m.atn = n.atn

/-! ### The words of statements about the Control Port -/

/-- The bytes of the buffer's frames and of the frame being received, counted (R170). -/
abbrev heldBytes (good : List (List Byte)) (partly : List Byte) : Nat := (good.map List.length).sum + partly.length

/-- CRDY once the buffer holds `held` bytes, having stood at `before` (R170). -/
abbrev readyAt (held : Nat) (before : Bool) : Bool := if 768 ≤ held then false else if held ≤ 256 then true else before

/-- The state `s` once the frame being received has been discarded: its bytes gone, the fault counted and raised (R172). -/
abbrev frameDiscarded (code : Byte) (s : State) : State :=
  raise Source.frameFault code (BitVec.ofNat 32 (saturatingSucc max32 s.control.faultCount))
    { s with
      control := { s.control with
        openFrame := [], ready := readyAt (heldBytes s.control.goodFrames []) s.control.ready,
        faultCount := saturatingSucc max32 s.control.faultCount } }

/-- Bytes that arrive on CPRX one after another, at the present time, take `s` to `t`. -/
def receives (bytes : List Byte) (s t : State) : Prop :=
  match bytes with
  | [] => t = s
  | b :: rest => ∃ u, exec (.controlPortByte 0 b) s = .next u ∧ receives rest u t

end Sys2Proof.Machine
end

