-- ==== Sys2Proof/Certificates/Slice0/Obligations.lean ====
section
/-! DEFINITION. The statements for the provers. Each says what a command does, where it completes, or which law every command
keeps; the rule it formalises stands in its docstring and in OBLIGATIONS.json. -/

open Sys2Proof Sys2Proof.Machine

/-! ### The machine -/

/-- A step takes the command at the front of the queue and executes it with the queue's rest. On an empty queue it executes
the event of the part's own that is due, or else one tick passes: the second clause is the model's choice (log entry 1). -/
def Obligations.StepTakesFrontOrRunsByItself : Prop :=
  (∀ (c : Instr) (rest : List Instr) (s : State),
    s.pending = c :: rest → step s = exec c { s with pending := rest })
  ∧ ∀ s : State, s.pending = [] →
    (∀ c : Instr, idleCommand s = some c → step s = exec c s)
      ∧ (idleCommand s = none → step s = .next { s with air := { s.air with timeBase := s.air.timeBase + 1 } })

/-- Every command, in every state, ends in a next state whose queue of commands is the one it found: no command stops the
part. An air frame addressed to another than the part is ignored (R56). -/
def Obligations.CommandsGoOnAndKeepQueue : Prop :=
  (∀ (c : Instr) (s : State), ∃ t, exec c s = .next t ∧ t.pending = s.pending)
  ∧ ∀ (h : AirHeader) (s : State), h.destination ≠ Config.partAddress →
    (∀ (declared : RawDeclared) (quality : Byte), exec (.ask h declared quality) s = .next s)
    ∧ (∀ earValue : PublicValue, exec (.accept h earValue) s = .next s)
    ∧ exec (.confirm h) s = .next s ∧ exec (.reject h) s = .next s ∧ exec (.bound h) s = .next s
    ∧ (∀ (accepts : Bool) (proof : Key), exec (.joinAck h accepts proof) s = .next s)
    ∧ exec (.leaveAck h) s = .next s
    ∧ ∀ frame : UpFrame, exec (.up h frame) s = .next s

/-! ### Reset -/

/-- Both resets leave every block at its reset values, in whatever state they find the part: the call record of Table 1.2, every
entry FREE, every slot FREE, no notice, the start frame owed; the second only once it is due (R2, R23, R33, R58, R76, R169,
R170, R176). The counter of draws and the queue of commands are the model's own (log entries 1 and 6) and stand. What the spec
gives no reset value is the model's choice (log entry 26), and so is the reset as one event (log entry 35). -/
def Obligations.ResetsLeaveResetValues : Prop :=
  ∀ s : State, ∃ t,
    exec .powerOnReset s = .next t
      ∧ (s.control.softReset = .due → exec .softResetPerformed s = .next t)
      ∧ t = { State.reset with draws := s.draws, pending := s.pending }
      ∧ t.call = ⟨.idle, .hz8000, .first, .normal, .off, .live, .none, 0, 0, 0⟩
      ∧ (∀ i : EntryId, t.roster[i] = .free)
      ∧ (∀ k : SlotId, t.slots[k].state = .free ∧ t.stores[k] = [] ∧ t.queues[k].state = .stopped)
      ∧ t.air.timeBase = 0 ∧ t.air.interval = 0 ∧ t.air.lastGranted = 3
      ∧ t.pair.state = .idle ∧ t.port.state = .stopped
      ∧ (∀ src : SourceId, t.notices.records[src] = ⟨false, 0, 0, 0, 0⟩) ∧ t.notices.atn = false
      ∧ t.control.startOwed = true ∧ t.control.requests = [] ∧ t.control.replies = [] ∧ t.control.ready = true

/-! ### Every request -/

/-- A request of a known kind whose body's size differs from the one Table 11.2 gives that kind is answered BAD_LENGTH, and nothing
else changes (R173). -/
def Obligations.WrongBodySizeIsRefused : Prop :=
  ∀ (c : Instr) (m : Message) (s : State),
    wellFormed c = true → messageOfInstr c = some m → isRequestKind m.kind = true → takeable m s → bodySizeFits m = false →
      exec c s = .next (replied (m.kind + 0x80) m.tag [10] s)

/-- Every request that can be taken leaves the request queue and appends exactly one reply, of the reply's kind and with its
tag echoed, in one event; one that cannot be taken, because the reply queue is full, a RESET_SOFT has been taken, or another
request stands at the head, waits, and nothing changes (R174, R176; log entry 4). -/
def Obligations.TakenRequestIsAnsweredOnce : Prop :=
  ∀ (c : Instr) (m : Message) (s : State), messageOfInstr c = some m →
    (wellFormed c = true → takeable m s →
      ∃ t body, exec c s = .next t ∧ body ≠ [] ∧ t.control.requests = s.control.requests.tail
        ∧ t.control.replies = s.control.replies ++ [⟨replyKind m.kind, m.tag, body⟩])
    ∧ (¬takeable m s → exec c s = .next s)

/-- "A refused request changes nothing and raises nothing": when the reply's status is a refusal, numbered 2 or more, only
the two queues have changed (R173). -/
def Obligations.RefusedRequestChangesNothing : Prop :=
  ∀ (c : Instr) (m : Message) (s t : State) (status : Byte) (rest : List Byte),
    messageOfInstr c = some m → takeable m s → exec c s = .next t → 2 ≤ status.toNat →
      t.control.replies = s.control.replies ++ [⟨replyKind m.kind, m.tag, status :: rest⟩] →
        rest = [] ∧ t = replied (replyKind m.kind) m.tag [status] s

/-- A message is the request of the command that takes it, and every message that fits a frame makes a well-formed command:
no bit of kind, tag or body is dropped (R171, R173). -/
def Obligations.RequestsAndMessagesAgree : Prop :=
  ∀ m : Message, m.body.length ≤ 256 →
    messageOfInstr (instrOfMessage m) = some m ∧ wellFormed (instrOfMessage m) = true
      ∧ ∀ c : Instr, wellFormed c = true → messageOfInstr c = some m → c = instrOfMessage m

/-- HELLO is answered OK with the identity body; RESET_SOFT is answered OK and its reset becomes owed; a kind outside
0x01..0x1C is answered UNKNOWN_KIND in a reply of kind 0x80; CALL_GET is answered OK in every call state with the nineteen
bytes of the call record and the slot states (R18, R173, R176). -/
def Obligations.IdentityCallGetAndUnknownKinds : Prop :=
  (∀ (tag : Byte) (s : State),
     (takeable ⟨0x01, tag, []⟩ s →
       exec (.hello tag []) s = .next (replied 0x81 tag [0, 0x45, 0x57, 0x34, 0x34, 1, 8, 4, 8, 2, 15] s))
     ∧ (takeable ⟨0x02, tag, []⟩ s →
       exec (.resetSoft tag []) s
         = .next (replied 0x82 tag [0] { s with control := { s.control with softReset := .replyOwed } }))
     ∧ (∀ (kind : Byte) (body : List Byte), (kind = 0 ∨ 28 < kind.toNat) → takeable ⟨kind, tag, body⟩ s →
       exec (.unknownKindRequest kind tag body) s = .next (replied 0x80 tag [9] s)))
  ∧ (∀ (tag : Byte) (s : State), takeable ⟨0x1B, tag, []⟩ s →
     exec (.callGet tag []) s
       = .next (replied 0x9B tag
         ([0, s.call.state.code, s.call.rate.code, s.call.resumeTo.code, s.call.closeReason.code,
           s.call.blockNumber.extractLsb' 0 8, s.call.blockNumber.extractLsb' 8 8, s.call.blockNumber.extractLsb' 16 8,
           s.call.blockNumber.extractLsb' 24 8]
           ++ [BitVec.ofNat 8 s.call.freeRunCount, BitVec.ofNat 8 (s.call.freeRunCount / 256),
             BitVec.ofNat 8 (s.call.freeRunCount / 65536), BitVec.ofNat 8 (s.call.freeRunCount / 16777216),
             s.call.wordPosition.code, s.call.byteOrder.code, s.call.loopback.code,
             s.slots[0].state.code, s.slots[1].state.code, s.slots[2].state.code, s.slots[3].state.code]) s))

/-! ### The call -/

/-- CALL_OPEN: in IDLE with every field inside its list it opens the call, writes the record and starts the hunt; with a
field outside its list it is refused with BAD_ARG; outside IDLE with BAD_STATE (R4). -/
def Obligations.CallOpenOpensFromIdle : Prop :=
  ∀ (tag b0 b1 b2 b3 : Byte) (s : State), takeable ⟨0x03, tag, [b0, b1, b2, b3]⟩ s →
    (s.call.state ≠ .idle → exec (.callOpen tag [b0, b1, b2, b3]) s = .next (replied 0x83 tag [3] s))
    ∧ (s.call.state = .idle → (3 ≤ b0.toNat ∨ 2 ≤ b1.toNat ∨ 2 ≤ b2.toNat ∨ 2 ≤ b3.toNat) →
      exec (.callOpen tag [b0, b1, b2, b3]) s = .next (replied 0x83 tag [4] s))
    ∧ (s.call.state = .idle →
      ∀ (rate : CallRate) (position : WordPosition) (order : ByteOrder) (loop : Loopback),
        [b0, b1, b2, b3] = [rate.code, position.code, order.code, loop.code] →
          exec (.callOpen tag [b0, b1, b2, b3]) s
            = .next (replied 0x83 tag [0]
              (raise Source.callState 1 0
                { s with
                  call := ⟨.opening, rate, position, order, loop, s.call.resumeTo, .none, s.call.blockNumber, 0, s.air.timeBase⟩
                  port := { s.port with state := .hunting, reference := none, goodCount := 0 } })))

/-- CALL_HOLD and CALL_RESUME by the call state, as Table 1.3 sets out (R8). -/
def Obligations.HoldAndResumeFollowTable : Prop :=
  ∀ (tag : Byte) (s : State),
    (takeable ⟨0x04, tag, []⟩ s →
      exec (.callHold tag []) s = .next (match s.call.state with
        | .live => replied 0x84 tag [0]
            (raise Source.callState 3 (s.call.closeReason.code.zeroExtend 32) { s with call := { s.call with state := .held } })
        | .held => replied 0x84 tag [0] s
        | .lost => replied 0x84 tag [0] { s with call := { s.call with resumeTo := .held } }
        | .idle => replied 0x84 tag [3] s
        | .opening => replied 0x84 tag [3] s
        | .closing => replied 0x84 tag [3] s))
    ∧ (takeable ⟨0x05, tag, []⟩ s →
      exec (.callResume tag []) s = .next (match s.call.state with
        | .live => replied 0x85 tag [0] s
        | .held => replied 0x85 tag [0]
            (raise Source.callState 2 (s.call.closeReason.code.zeroExtend 32) { s with call := { s.call with state := .live } })
        | .lost => replied 0x85 tag [0] { s with call := { s.call with resumeTo := .live } }
        | .idle => replied 0x85 tag [3] s
        | .opening => replied 0x85 tag [3] s
        | .closing => replied 0x85 tag [3] s))

/-- In OPENING, CALL_CLOSE and the expiry of the 8,000,000 ticks end the call at once: IDLE, the port stopped with its values of
reset but for the last block event time, CALL_STATE raised with the close reason; before the expiry only time passes. CALL_CLOSE
in IDLE is refused with BAD_STATE, and in CLOSING is answered OK and changes nothing (R6, R7, R13). That the port keeps its last
block event time is read from R151 and R158 (log entry 31), and that an event not due lets only time pass is the model's choice
(log entry 5). -/
def Obligations.CloseAndTimeoutOutsideCall : Prop :=
  (∀ (tag : Byte) (elapsed : Tick) (s : State), s.call.state = .opening →
     (takeable ⟨0x06, tag, []⟩ s →
       exec (.callClose tag []) s
         = .next (replied 0x86 tag [0]
           (raise Source.callState 0 1
             { s with
               call := { s.call with state := .idle, closeReason := .byRequest }
               port := { PortRecord.reset with lastBlockEventTime := s.port.lastBlockEventTime } })))
     ∧ (8000000 ≤ (s.air.timeBase + elapsed - s.call.openTime).toNat →
       exec (.lockTimeout elapsed) s
         = .next (raise Source.callState 0 2
           { s with
             air := { s.air with timeBase := s.air.timeBase + elapsed }
             call := { s.call with state := .idle, closeReason := .noSync }
             port := { PortRecord.reset with lastBlockEventTime := s.port.lastBlockEventTime } }))
     ∧ ((s.air.timeBase + elapsed - s.call.openTime).toNat < 8000000 →
       exec (.lockTimeout elapsed) s = .next { s with air := { s.air with timeBase := s.air.timeBase + elapsed } }))
  ∧ (∀ (tag : Byte) (s : State), takeable ⟨0x06, tag, []⟩ s →
     (s.call.state = .idle → exec (.callClose tag []) s = .next (replied 0x86 tag [3] s))
     ∧ (s.call.state = .closing → exec (.callClose tag []) s = .next (replied 0x86 tag [0] s)))

/-- CALL_CLOSE in LIVE, HELD or LOST is answered OK and enters CLOSING with BY_REQUEST: JOINING slots become FREE with their
entries BONDED and JOIN_RESULT CALL_CLOSED, STREAMING ones LEAVING with their queues flushed, their stores empty, their converter
records cleared and their members gone from the voices. With no slot left in use the closing completes at once: IDLE, the port
stopped, the converters at their starting state but for class limit, base step and last measured step, the stores empty, and a
pending commit carried out with COMMIT_DONE AT_ONCE (R13, R14, R17, R59, R66, R93, R101, R124, R139). That the slots are taken from
0 to 3, which the latest value of JOIN_RESULT, the voices and VOICE_SWITCH may show, is the model's choice (log entry 37), and the
zeros of the last output block are its reading (log entry 22). -/
def Obligations.CallCloseSendsSlotsAway : Prop :=
  ∀ (tag : Byte) (s : State), takeable ⟨0x06, tag, []⟩ s →
    (s.call.state = .live ∨ s.call.state = .held ∨ s.call.state = .lost) →
      ∃ t : State, exec (.callClose tag []) s = .next (replied 0x86 tag [0] t) ∧ closingEntered .byRequest s t

/-! ### The roster -/

/-- ROSTER_PUT with well-formed contents laid out as R24 names them, into a FREE or BONDED entry and clashing with no other
entry, writes the entry whole, makes it BONDED and replies OK; it is refused in the order of R24: an index outside 0..7 with
BAD_ARG, a RESERVED or IN_CALL target with BAD_STATE, malformed contents with BAD_ARG, contents that clash with another entry
with CONFLICT. ROSTER_GET gives the entry's state, and for BONDED and IN_CALL its 28 bytes, and changes nothing; ROSTER_DROP
follows the table of R27 (R24, R25, R26, R27). Which flag bytes are malformed is the model's reading (log entry 19). -/
def Obligations.RosterRequestsFollowRules : Prop :=
  (∀ (tag : Byte) (i : EntryId) (contents : Contents) (s : State),
     takeable ⟨0x07, tag, BitVec.ofNat 8 i :: contents.bytes⟩ s →
     s.roster[i] ≠ .reserved → s.roster[i].isInCall = false →
     (∀ j : EntryId, j ≠ i → entriesDiffer (.bonded contents) s.roster[j] = true) →
       exec (.rosterPut tag (BitVec.ofNat 8 i :: contents.bytes)) s
         = .next (replied 0x87 tag [0] { s with roster := s.roster.set i (.bonded contents) }))
  ∧ (∀ (tag index : Byte) (rest : List Byte) (s : State),
     takeable ⟨0x07, tag, index :: rest⟩ s → rest.length = 28 →
       (8 ≤ index.toNat → exec (.rosterPut tag (index :: rest)) s = .next (replied 0x87 tag [4] s))
       ∧ (∀ i : EntryId, index = BitVec.ofNat 8 i →
         ((s.roster[i] = .reserved ∨ s.roster[i].isInCall = true) →
           exec (.rosterPut tag (index :: rest)) s = .next (replied 0x87 tag [3] s))
         ∧ (s.roster[i] ≠ .reserved → s.roster[i].isInCall = false →
           (contentsOfBody (index :: rest) = none →
             exec (.rosterPut tag (index :: rest)) s = .next (replied 0x87 tag [4] s))
           ∧ (∀ contents : Contents, contentsOfBody (index :: rest) = some contents →
             (∃ j : EntryId, j ≠ i ∧ entriesDiffer (.bonded contents) s.roster[j] = false) →
               exec (.rosterPut tag (index :: rest)) s = .next (replied 0x87 tag [7] s)))))
  ∧ (∀ (tag : Byte) (i : EntryId) (s : State),
     (takeable ⟨0x08, tag, [BitVec.ofNat 8 i]⟩ s →
       exec (.rosterGet tag [BitVec.ofNat 8 i]) s
         = .next (replied 0x88 tag (match s.roster[i] with
           | .free => [0, 0]
           | .reserved => [0, 1]
           | .bonded contents => [0, 2] ++ contents.bytes
           | .inCall contents => [0, 3] ++ contents.bytes) s))
     ∧ (takeable ⟨0x09, tag, [BitVec.ofNat 8 i]⟩ s →
       exec (.rosterDrop tag [BitVec.ofNat 8 i]) s
         = .next (match s.roster[i] with
           | .free => replied 0x89 tag [5] s
           | .reserved => replied 0x89 tag [3] s
           | .inCall _ => replied 0x89 tag [3] s
           | .bonded _ => replied 0x89 tag [0] { s with roster := s.roster.set i .free }))
     ∧ (∀ index : Byte, 8 ≤ index.toNat →
       (takeable ⟨0x08, tag, [index]⟩ s → exec (.rosterGet tag [index]) s = .next (replied 0x88 tag [4] s))
       ∧ (takeable ⟨0x09, tag, [index]⟩ s → exec (.rosterDrop tag [index]) s = .next (replied 0x89 tag [4] s))))

/-! ### Pairing -/

/-- PAIR_START in IDLE reserves the lowest-numbered FREE entry and enters LISTEN with the window clamped to 1..120; it is
refused with BUSY in every other state, and with FULL when no entry is FREE (R28, R35). -/
def Obligations.PairStartReservesAndListens : Prop :=
  ∀ (tag window : Byte) (s : State), takeable ⟨0x0A, tag, [window]⟩ s →
    (s.pair.state ≠ .idle → exec (.pairStart tag [window]) s = .next (replied 0x8A tag [2] s))
    ∧ (s.pair.state = .idle → (∀ i : EntryId, s.roster[i] ≠ .free) →
      exec (.pairStart tag [window]) s = .next (replied 0x8A tag [6] s))
    ∧ (s.pair.state = .idle → ∀ i : EntryId, s.roster[i] = .free → (∀ j : EntryId, j < i → s.roster[j] ≠ .free) →
      ∃ w : Nat, w = max 1 (min 120 window.toNat)
        ∧ exec (.pairStart tag [window]) s
          = .next (replied 0x8A tag [if w = window.toNat then 0 else 1, BitVec.ofNat 8 i, BitVec.ofNat 8 w]
            { s with
              roster := s.roster.set i .reserved
              pair := { s.pair with
                state := .listen, reservedEntry := some i, window := w, windowCount := 0, windowEnded := false,
                candidates := [] } }))

/-- PAIR_PICK in LISTEN of a listed candidate that is in no call and clashes with no other entry makes it the partner, draws
a fresh part value and enters OFFERED; otherwise it is refused by the checks of R40 in their order (R40). -/
def Obligations.PairPickOffersCandidate : Prop :=
  ∀ (tag index : Byte) (s : State), takeable ⟨0x0B, tag, [index]⟩ s →
    (s.pair.state ≠ .listen → exec (.pairPick tag [index]) s = .next (replied 0x8B tag [3] s))
    ∧ (s.pair.state = .listen →
      (4 ≤ index.toNat → exec (.pairPick tag [index]) s = .next (replied 0x8B tag [4] s))
      ∧ (index.toNat < 4 →
        (s.pair.candidates[index.toNat]? = none → exec (.pairPick tag [index]) s = .next (replied 0x8B tag [5] s))
        ∧ (∀ x : Candidate, s.pair.candidates[index.toNat]? = some x →
          ((∃ (i : EntryId) (held : Contents), s.roster[i] = .inCall held ∧ held.declared.address = x.declared.address) →
            exec (.pairPick tag [index]) s = .next (replied 0x8B tag [2] s))
          ∧ ((∀ (i : EntryId) (held : Contents), s.roster[i] = .inCall held → held.declared.address ≠ x.declared.address) →
            ((∃ (i : EntryId) (held : Contents), s.roster[i].contents = some held
                ∧ held.declared.address ≠ x.declared.address ∧ held.declared.place = x.declared.place
                ∧ x.declared.place ≠ .mono) →
              exec (.pairPick tag [index]) s = .next (replied 0x8B tag [7] s))
            ∧ ((∀ (i : EntryId) (held : Contents), s.roster[i].contents = some held →
                held.declared.address = x.declared.address ∨ held.declared.place ≠ x.declared.place
                  ∨ x.declared.place = .mono) →
              exec (.pairPick tag [index]) s
                = .next (replied 0x8B tag [0]
                  { s with
                    pair := { s.pair with
                      state := .offered, partner := some x, partValue := some (Config.freshPublicValue s.draws),
                      attempt := 1, turnsWaited := 0, hostConfirmed := false, earConfirmed := false, linkKey := none }
                    draws := s.draws + 1 }))))))

/-- PAIR_CONFIRM in COMPARE with no end pending: yes is remembered and, with the earbud's, leads to BINDING; no makes an
ABANDON owed; another value is BAD_ARG; and in any other state, or with an end pending, it is BAD_STATE. PAIR_CANCEL by the
state: BAD_STATE in IDLE, OK with no effect while an end is pending, an ABANDON owed in OFFERED to BINDING, and in LISTEN the
pairing fails at once with CANCELLED, the time base standing (R44, R45, R47, R49). What becomes of a turn in progress as its
handshake ends is the model's reading (log entry 30). -/
def Obligations.ConfirmAndCancelDecide : Prop :=
  (∀ (tag value : Byte) (s : State), takeable ⟨0x0C, tag, [value]⟩ s →
     (¬(s.pair.state = .compare ∧ s.pair.endPending = none) →
       exec (.pairConfirm tag [value]) s = .next (replied 0x8C tag [3] s))
     ∧ (s.pair.state = .compare → s.pair.endPending = none →
       (value = 1 → exec (.pairConfirm tag [value]) s
         = .next (replied 0x8C tag [0]
           { s with
             pair := if s.pair.earConfirmed then { s.pair with hostConfirmed := true, state := .binding, bindCount := 0 }
               else { s.pair with hostConfirmed := true } }))
       ∧ (value = 0 → exec (.pairConfirm tag [value]) s
         = .next (replied 0x8C tag [0] { s with pair := { s.pair with endPending := some .rejectedByHost } }))
       ∧ (2 ≤ value.toNat → exec (.pairConfirm tag [value]) s = .next (replied 0x8C tag [4] s))))
  ∧ (∀ (tag : Byte) (s : State), takeable ⟨0x0D, tag, []⟩ s →
     (s.pair.state = .idle → exec (.pairCancel tag []) s = .next (replied 0x8D tag [3] s))
     ∧ (s.pair.state ≠ .idle → s.pair.endPending ≠ none → exec (.pairCancel tag []) s = .next (replied 0x8D tag [0] s))
     ∧ (s.pair.state ≠ .idle → s.pair.state ≠ .listen → s.pair.endPending = none →
       exec (.pairCancel tag []) s
         = .next (replied 0x8D tag [0] { s with pair := { s.pair with endPending := some .cancelled } }))
     ∧ (s.pair.state = .listen → s.pair.endPending = none →
       ∃ t, exec (.pairCancel tag []) s = .next (replied 0x8D tag [0] t) ∧ pairingFailed .cancelled s t))

/-- An ASK taken in LISTEN, in the second half of a turn: a listed address refreshes its candidate in place; a new one is appended
while fewer than four are listed; in a full list it replaces the last candidate of the lowest quality if its own is higher, and is
dropped otherwise; a malformed one is ignored, and so is one in the first half, in another state or use of the slot, or with an end pending. In LISTEN
every candidate not heard for 300 intervals is removed, and the rest keep their order; in every other state the list is held (R34, R36, R37, R38). That a malformed flag is ignored and that the source is the declared
address are the model's readings (log entries 19, 29), as are the states in which an ASK is taken (log entry 30), and that no end of
the second half is checked is its choice (log entry 17). -/
def Obligations.AskListsCandidatesThatExpire : Prop :=
  (∀ (h : AirHeader) (raw : RawDeclared) (quality : Byte) (s : State),
     s.air.use = .turn .listen false → s.pair.state = .listen → s.pair.endPending = none →
     h.destination = Config.partAddress →
     (¬inSecondHalf s → exec (.ask h raw quality) s = .next s)
     ∧ (inSecondHalf s →
       (checkDeclared h.source raw = none → exec (.ask h raw quality) s = .next s)
       ∧ (∀ d : Declared, checkDeclared h.source raw = some d →
         ((∃ x ∈ s.pair.candidates, x.declared.address = h.source) →
           exec (.ask h raw quality) s
             = .next { s with
               pair := { s.pair with
                 candidates := s.pair.candidates.map fun x =>
                   if x.declared.address = h.source then ⟨x.declared, quality, s.air.interval⟩ else x } })
         ∧ ((∀ x ∈ s.pair.candidates, x.declared.address ≠ h.source) →
           (s.pair.candidates.length < 4 →
             exec (.ask h raw quality) s
               = .next (raise Source.pairEvent 1 (BitVec.ofNat 32 s.pair.candidates.length)
                 { s with pair := { s.pair with candidates := s.pair.candidates ++ [⟨d, quality, s.air.interval⟩] } }))
           ∧ (4 ≤ s.pair.candidates.length →
             ((∃ x ∈ s.pair.candidates, x.quality.toNat < quality.toNat) →
               ∃ (front back : List Candidate) (x : Candidate),
                 s.pair.candidates = front ++ x :: back
                   ∧ (∀ y ∈ front, x.quality.toNat ≤ y.quality.toNat) ∧ (∀ y ∈ back, x.quality.toNat < y.quality.toNat)
                   ∧ exec (.ask h raw quality) s
                     = .next (raise Source.pairEvent 1 3
                       { s with pair := { s.pair with candidates := front ++ back ++ [⟨d, quality, s.air.interval⟩] } }))
             ∧ ((∀ x ∈ s.pair.candidates, quality.toNat ≤ x.quality.toNat) →
               exec (.ask h raw quality) s = .next s))))))
  ∧ (∀ (h : AirHeader) (raw : RawDeclared) (quality : Byte) (s : State),
     ¬(s.air.use = .turn .listen false ∧ s.pair.state = .listen ∧ s.pair.endPending = none) →
       exec (.ask h raw quality) s = .next s)
  ∧ (∀ s : State,
     (s.pair.state = .listen →
       exec .candidateExpiry s
         = .next { s with
           pair := { s.pair with
             candidates := s.pair.candidates.filter fun x => (s.air.interval - x.lastHeard).toNat < 300 } })
     ∧ (s.pair.state ≠ .listen → exec .candidateExpiry s = .next s))

/-- The partner's frames before the bond, in the second half of a turn: ACCEPT in OFFERED stores the ear value and hands both
values to the key unit, which runs them at once when idle and after the discarded computation otherwise; CONFIRM in KEYING is kept,
and in COMPARE with the host's yes leads to BINDING; REJECT in KEYING or COMPARE fails the pairing with REJECTED_BY_EAR, and lets no
time pass. A frame from another source, to another destination, in the first half, in another slot, in another state or with an end
pending is ignored (R34, R42, R44, R45, R47, R56). The states that a turn's frames need, and what becomes of the turn as its
handshake ends, are the model's readings (log entry 30), and that no end of the second half is checked is its choice (log entry
17). -/
def Obligations.PartnerFramesMoveHandshake : Prop :=
  ∀ (h : AirHeader) (earValue : PublicValue) (s : State),
    (partnerTurn .offered h s → s.pair.state = .offered →
      exec (.accept h earValue) s
        = .next { s with
          pair := { s.pair with state := .keying, earValue := some earValue }
          keyUnit := match s.keyUnit.running with
            | none => ⟨some ⟨s.pair.partValue.getD [], earValue, 0, false⟩, s.keyUnit.waiting⟩
            | some k => ⟨some k, some (s.pair.partValue.getD [], earValue)⟩ })
    ∧ ((partnerTurn .keying h s ∨ partnerTurn .compare h s) →
      (s.pair.state = .keying →
        exec (.confirm h) s = .next { s with pair := { s.pair with earConfirmed := true } })
      ∧ (s.pair.state = .compare →
        exec (.confirm h) s
          = .next { s with
            pair := if s.pair.hostConfirmed then { s.pair with earConfirmed := true, state := .binding, bindCount := 0 }
              else { s.pair with earConfirmed := true } })
      ∧ ((s.pair.state = .keying ∨ s.pair.state = .compare) →
        ∃ t, exec (.reject h) s = .next t ∧ pairingFailed .rejectedByEar s t))
    ∧ (¬(partnerTurn .offered h s ∧ s.pair.state = .offered) → exec (.accept h earValue) s = .next s)
    ∧ (¬((partnerTurn .keying h s ∨ partnerTurn .compare h s) ∧ (s.pair.state = .keying ∨ s.pair.state = .compare)) →
      exec (.confirm h) s = .next s ∧ exec (.reject h) s = .next s)

/-- A BOUND taken in BINDING hands the bind to the roster: an address in a call or a clash makes an ABANDON owed and writes
nothing; a re-pairing rewrites the entry of the address and frees the reserved one; a first pairing writes the reserved entry;
then DONE is raised with the entry's index and the context is IDLE. A BOUND from another source, in the first half, in another slot
or state, or with an end pending is ignored (R29, R34, R46, R56). The use of the slot in progress after the bond and the states that
a turn's frame needs are the model's readings (log entry 30); that a BOUND is taken with no check of the second half's end is its
choice (log entry 17). -/
def Obligations.BoundWritesBond : Prop :=
  (∀ (h : AirHeader) (s : State) (reserved : EntryId) (x : Candidate) (key : Key),
    partnerTurn .binding h s → s.pair.state = .binding →
    s.pair.reservedEntry = some reserved → s.roster[reserved] = .reserved → s.pair.partner = some x → s.pair.linkKey = some key →
    rosterLaw s →
      ((∃ (i : EntryId) (held : Contents), s.roster[i] = .inCall held ∧ held.declared.address = x.declared.address) →
        exec (.bound h) s = .next { s with pair := { s.pair with endPending := some .inCall } })
      ∧ (∀ (i : EntryId) (held : Contents), s.roster[i] = .bonded held → held.declared.address = x.declared.address →
        ((∀ (j : EntryId) (other : Contents), j ≠ i → s.roster[j].contents = some other →
            other.declared.place ≠ x.declared.place ∨ x.declared.place = .mono) →
          exec (.bound h) s
            = .next (raise Source.pairEvent 3 (BitVec.ofNat 32 i)
              { s with
                roster := (s.roster.set i (.bonded ⟨x.declared, key⟩)).set reserved .free
                pair := { PairContext.reset with window := s.pair.window }
                air := { s.air with use := useAfterHandshake s.air.use } }))
        ∧ ((∃ (j : EntryId) (other : Contents), j ≠ i ∧ s.roster[j].contents = some other
              ∧ other.declared.place = x.declared.place ∧ x.declared.place ≠ .mono) →
          exec (.bound h) s = .next { s with pair := { s.pair with endPending := some .conflict } }))
      ∧ ((∀ (i : EntryId) (held : Contents), s.roster[i].contents = some held →
            held.declared.address ≠ x.declared.address) →
        ((∀ (j : EntryId) (other : Contents), s.roster[j].contents = some other →
            other.declared.place ≠ x.declared.place ∨ x.declared.place = .mono) →
          exec (.bound h) s
            = .next (raise Source.pairEvent 3 (BitVec.ofNat 32 reserved)
              { s with
                roster := s.roster.set reserved (.bonded ⟨x.declared, key⟩)
                pair := { PairContext.reset with window := s.pair.window }
                air := { s.air with use := useAfterHandshake s.air.use } }))
        ∧ ((∃ (j : EntryId) (other : Contents), s.roster[j].contents = some other
              ∧ other.declared.place = x.declared.place ∧ x.declared.place ≠ .mono) →
          exec (.bound h) s = .next { s with pair := { s.pair with endPending := some .conflict } })))
  ∧ (∀ (h : AirHeader) (s : State), ¬(partnerTurn .binding h s ∧ s.pair.state = .binding) → exec (.bound h) s = .next s)

/-- The events that fail a pairing: the window's end in LISTEN, the tenth BIND without a BOUND, and the end of the first half of
a turn that carried the ABANDON, each with its reason; in another turn the end of the first half lets time pass to it. An attempt
gone four turns without an ACCEPT: after attempt 1 or 2 the next attempt begins; after attempt 3 the partner's candidate is
removed, FAILED is raised with NO_ANSWER, and the context is back in LISTEN with its reservation; where the window has ended, the
pairing fails there with WINDOW_END. In COMPARE with no end pending, the count of 3,000 makes an ABANDON owed with TIMEOUT (R34,
R39, R41, R45, R46, R47, R48). The use of the slot in progress after a failure, the times of BIND_NO_ANSWER and of the first half's
end, and that the turns waited stand after a failed pick are the model's readings (log entries 30, 32, 27), and that an event not
due changes nothing is its choice (log entry 5). -/
def Obligations.PairingTimersEndHandshake : Prop :=
  (∀ s : State,
     (s.pair.state = .listen → s.pair.windowEnded = true →
       ∃ t, exec .windowEnd s = .next t ∧ pairingFailed .windowEnd s t)
     ∧ (s.pair.state = .binding → s.pair.endPending = none → 10 ≤ s.pair.bindCount →
       ∃ t, exec .bindNoAnswer s = .next t ∧ pairingFailedAt (timeFrom 4000 s.air) .noAnswer s t)
     ∧ (∀ (began : PairState) (reason : FailReason), s.air.use = .turn began true → s.pair.endPending = some reason →
       ∃ t, exec .pairTurnFirstHalfEnd s = .next t ∧ pairingFailedAt (timeFrom 2000 s.air) reason s t)
     ∧ (∀ began : PairState, s.air.use = .turn began false →
       (inSecondHalf s → exec .pairTurnFirstHalfEnd s = .next s)
       ∧ (¬inSecondHalf s →
         exec .pairTurnFirstHalfEnd s = .next { s with air := { s.air with timeBase := s.air.anchor + 2000 } })))
  ∧ (∀ s : State, s.pair.state = .offered → s.pair.endPending = none → 4 ≤ s.pair.turnsWaited →
     (s.pair.attempt < 3 →
       exec .offerTimeout s
         = .next { s with pair := { s.pair with attempt := s.pair.attempt + 1, turnsWaited := 0 } })
     ∧ (∀ (x : Candidate) (u : State), 3 ≤ s.pair.attempt → s.pair.partner = some x →
       u = raise Source.pairEvent 4 1
         { s with
           pair := { s.pair with
             state := .listen
             candidates := s.pair.candidates.filter fun y => y.declared.address != x.declared.address
             partner := none, partValue := none, attempt := 1 } } →
         (s.pair.windowEnded = false → exec .offerTimeout s = .next u)
         ∧ (s.pair.windowEnded = true → ∃ t, exec .offerTimeout s = .next t ∧ pairingFailed .windowEnd u t)))
  ∧ (∀ s : State, s.pair.state = .compare → s.pair.endPending = none →
     (3000 ≤ s.pair.compareCount →
       exec .compareTimeout s = .next { s with pair := { s.pair with endPending := some .timeout } })
     ∧ (s.pair.compareCount < 3000 → exec .compareTimeout s = .next s))

/-- The completion of a key computation after its five intervals: delivered, it stores the link key, enters COMPARE and
raises CODE_READY with the key's first four bytes modulo 1,000,000; discarded, or with an end pending, it delivers nothing;
either way a waiting computation begins (R42, R43). -/
def Obligations.KeyComputationDeliversCode : Prop :=
  ∀ (s : State) (k : KeyComputation), s.keyUnit.running = some k → 5 ≤ k.intervals →
    ∃ unit : KeyUnit,
      unit = ⟨s.keyUnit.waiting.map fun w => ⟨w.1, w.2, 0, false⟩, none⟩
      ∧ (k.discarded = false → s.pair.state = .keying → s.pair.endPending = none →
        exec .keyComputationDone s
          = .next (raise Source.pairEvent 2
              (BitVec.ofNat 32 (((Config.linkKey k.partValue k.earValue).extractLsb' 96 32).toNat % 1000000))
              { s with
                keyUnit := unit
                pair := { s.pair with
                  state := .compare, linkKey := some (Config.linkKey k.partValue k.earValue), compareCount := 0 } }))
      ∧ ((k.discarded = true ∨ s.pair.state ≠ .keying ∨ s.pair.endPending ≠ none) →
        exec .keyComputationDone s = .next { s with keyUnit := unit })

/-! ### Stream slots -/

/-- EAR_JOIN is checked in the order of R60: BAD_STATE outside LIVE and HELD, BAD_ARG, NO_ENTRY, BUSY, UNSUPPORTED, FULL;
accepted, it takes the lowest-numbered FREE slot into JOINING, marks the entry IN_CALL and draws a fresh challenge (R30,
R60). -/
def Obligations.EarJoinTakesLowestSlot : Prop :=
  ∀ (tag index : Byte) (s : State), takeable ⟨0x0E, tag, [index]⟩ s →
    (s.call.state ≠ .live → s.call.state ≠ .held → exec (.earJoin tag [index]) s = .next (replied 0x8E tag [3] s))
    ∧ ((s.call.state = .live ∨ s.call.state = .held) →
      (8 ≤ index.toNat → exec (.earJoin tag [index]) s = .next (replied 0x8E tag [4] s))
      ∧ (∀ i : EntryId, index = BitVec.ofNat 8 i →
        ((s.roster[i] = .free ∨ s.roster[i] = .reserved) →
          exec (.earJoin tag [index]) s = .next (replied 0x8E tag [5] s))
        ∧ (∀ held : Contents, s.roster[i] = .inCall held →
          exec (.earJoin tag [index]) s = .next (replied 0x8E tag [2] s))
        ∧ (∀ held : Contents, s.roster[i] = .bonded held →
          (held.declared.rates.holds s.call.rate = false →
            exec (.earJoin tag [index]) s = .next (replied 0x8E tag [8] s))
          ∧ (held.declared.rates.holds s.call.rate = true →
            ((∀ k : SlotId, s.slots[k].state ≠ .free) →
              exec (.earJoin tag [index]) s = .next (replied 0x8E tag [6] s))
            ∧ (∀ k : SlotId, s.slots[k].state = .free → (∀ j : SlotId, j < k → s.slots[j].state ≠ .free) →
              exec (.earJoin tag [index]) s
                = .next (replied 0x8E tag [0, BitVec.ofNat 8 k]
                  { s with
                    roster := s.roster.set i (.inCall held)
                    slots := s.slots.set k
                      { StreamSlot.reset with
                        state := .joining, rosterIndex := some i, challenge := some (Config.freshChallenge s.draws) }
                    draws := s.draws + 1 }))))))

/-- EAR_LEAVE by the slot's state: NO_ENTRY when FREE; OK with no effect when LEAVING; a JOINING slot FREE at once with
JOIN_RESULT CANCELLED; a STREAMING slot in LEAVING with its stream ended and its slot out of its voice (R66, R67, R139). -/
def Obligations.EarLeaveFollowsTable : Prop :=
  ∀ (tag : Byte) (s : State),
    (∀ index : Byte, 4 ≤ index.toNat → takeable ⟨0x0F, tag, [index]⟩ s →
      exec (.earLeave tag [index]) s = .next (replied 0x8F tag [4] s))
    ∧ ∀ k : SlotId, takeable ⟨0x0F, tag, [BitVec.ofNat 8 k]⟩ s →
    (s.slots[k].state = .free → exec (.earLeave tag [BitVec.ofNat 8 k]) s = .next (replied 0x8F tag [5] s))
    ∧ (s.slots[k].state = .leaving → exec (.earLeave tag [BitVec.ofNat 8 k]) s = .next (replied 0x8F tag [0] s))
    ∧ (s.slots[k].state = .joining → ¬completesClosing k s →
      exec (.earLeave tag [BitVec.ofNat 8 k]) s
        = .next (replied 0x8F tag [0] (raiseAt Source.joinResult 6 k (slotFreed k s))))
    ∧ (s.slots[k].state = .streaming →
      ∃ t, exec (.earLeave tag [BitVec.ofNat 8 k]) s = .next (replied 0x8F tag [0] t)
        ∧ t.slots = s.slots.set k
          { s.slots[k] with
            state := .leaving, intervalCount := 0, carried := .nothing, lastSent := none, retryCandidate := false }
        ∧ streamEnded k s t
        ∧ ((∀ v : VoiceId, ¬switchesWinner k s.voices[v]) → t.notices = s.notices)
        ∧ t.roster = s.roster ∧ restStands s t)

/-- A JOIN_ACK taken while the slot is JOINING: a refusal frees it with JOIN_RESULT REFUSED, a failing proof with AUTH; a
passing proof brings it into STREAMING with a fresh queue, converter and store, and JOIN_RESULT OK, or NO_VOICE when a
microphone found no voice. One that does not come from the earbud of a slot that is JOINING, in the uplink slot that began so, is
ignored (R56, R62, R63, R64, R80, R101, R138). -/
def Obligations.JoinAckEndsJoin : Prop :=
  (∀ (h : AirHeader) (proof : Key) (k : SlotId) (i : EntryId) (held : Contents) (s : State),
    s.air.use = .uplink k .joining → s.slots[k].state = .joining → ¬completesClosing k s → voiceLaw s →
    h.destination = Config.partAddress → s.slots[k].rosterIndex = some i → s.roster[i].contents = some held →
    held.declared.address = h.source →
      exec (.joinAck h false proof) s = .next (raiseAt Source.joinResult 3 k (slotFreed k s))
      ∧ ∃ t, exec (.joinAck h true proof) s = .next t
        ∧ if Config.proofPasses held.linkKey (s.slots[k].challenge.getD 0) proof then
            t.slots = s.slots.set k { StreamSlot.reset with state := .streaming, rosterIndex := some i }
              ∧ t.roster = s.roster
              ∧ t.queues = s.queues.set k
                { s.queues[k] with
                  state := .filling, entries := [], quiet := 0, arrival := false, stats := Stats.reset,
                  quality := List.replicate 16 .good }
              ∧ t.convs = s.convs.set k (Converter.starting held.declared.clockClass.limit s.call.rate.samples)
              ∧ t.stores = s.stores.set k []
              ∧ t.voices = (bindVoice k held.declared s).voices ∧ restStands s t
              ∧ t.notices.records[Source.joinResult].latestValue = BitVec.ofNat 32 k
              ∧ t.notices.records[Source.joinResult].latestCode
                = (if held.declared.microphone = true ∧ ∀ v : VoiceId, t.voices[v].hasMember k = false then 2 else 1)
          else t = raiseAt Source.joinResult 4 k (slotFreed k s))
  ∧ (∀ (h : AirHeader) (accepts : Bool) (proof : Key) (s : State),
     (∀ k : SlotId, ¬(s.air.use = .uplink k .joining ∧ s.slots[k].state = .joining ∧ fromEarbud k h s)) →
       exec (.joinAck h accepts proof) s = .next s)

/-- The binding of a new stream: with no microphone no voice changes; a BOUND voice of the earbud's set that lacks its role
takes it; else the lowest-numbered FREE voice becomes BOUND with it; else no voice changes (R138). -/
def Obligations.NewStreamTakesVoice : Prop :=
  ∀ (k : SlotId) (d : Declared) (s : State),
    (d.microphone = false → bindVoice k d s = s)
    ∧ (d.microphone = true →
      (∀ (v : VoiceId) (setId : Byte), s.voices[v].boundTo = some (.numbered setId) →
        (∀ w : VoiceId, w < v → s.voices[w].boundTo ≠ some (.numbered setId)) →
          (d.place = .left setId → s.voices[v].left = none →
            bindVoice k d s = { s with voices := s.voices.set v { s.voices[v] with left := some k } })
          ∧ (d.place = .right setId → s.voices[v].right = none →
            bindVoice k d s = { s with voices := s.voices.set v { s.voices[v] with right := some k } }))
      ∧ ((∀ (w : VoiceId) (setId : Byte), s.voices[w].boundTo = some (.numbered setId) →
            (d.place = .left setId → s.voices[w].left ≠ none) ∧ (d.place = .right setId → s.voices[w].right ≠ none)) →
        (∀ v : VoiceId, s.voices[v].boundTo = none → (∀ w : VoiceId, w < v → s.voices[w].boundTo ≠ none) →
          bindVoice k d s
            = { s with
              voices := s.voices.set v (match d.place with
                | .left setId =>
                  { s.voices[v] with boundTo := some (.numbered setId), left := some k, winner := none, sinceSwitch := 0 }
                | .right setId =>
                  { s.voices[v] with boundTo := some (.numbered setId), right := some k, winner := none, sinceSwitch := 0 }
                | .mono => { s.voices[v] with boundTo := some .mono, mono := some k, winner := none, sinceSwitch := 0 }) })
        ∧ ((∀ v : VoiceId, s.voices[v].boundTo ≠ none) → bindVoice k d s = s)))

/-- Joins and leaves that go unanswered: the twentieth JOIN_REQ ends the join with NO_ANSWER, the third LEAVE frees the slot
without a notice, and a LEAVE_ACK in LEAVING frees it at once. Link loss at the fiftieth silent interval: a STREAMING slot ends
its stream and is FREE with its entry BONDED, a LEAVING one whose third LEAVE is not due is FREE, and LINK_LOSS is raised with the
slot. In another state of the slot, or before the count of 20, of 3 or of 50, nothing changes, nor by a LEAVE_ACK that does not come from
the earbud of a LEAVING slot in the uplink slot that began so (R56, R59, R61, R66, R68, R69). That an
event not due changes nothing is the model's choice (log entry 5). -/
def Obligations.JoinsLeavesAndLinksEnd : Prop :=
  (∀ (h : AirHeader) (k : SlotId) (s : State), ¬completesClosing k s →
     (s.slots[k].state = .joining → 20 ≤ s.slots[k].intervalCount →
       exec (.joinNoAnswer k) s = .next (raiseAt Source.joinResult 5 k (slotFreed k s)))
     ∧ (s.slots[k].state = .leaving → 3 ≤ s.slots[k].intervalCount →
       exec (.leaveUnanswered k) s = .next (slotFreed k s))
     ∧ (s.slots[k].state = .leaving → s.air.use = .uplink k .leaving → fromEarbud k h s →
       exec (.leaveAck h) s = .next (slotFreed k s)))
  ∧ (∀ (k : SlotId) (s : State),
     ((s.slots[k].state ≠ .joining ∨ s.slots[k].intervalCount < 20) → exec (.joinNoAnswer k) s = .next s)
     ∧ ((s.slots[k].state ≠ .leaving ∨ s.slots[k].intervalCount < 3) → exec (.leaveUnanswered k) s = .next s)
     ∧ ((s.slots[k].state = .free ∨ s.slots[k].state = .joining ∨ s.slots[k].supervision < 50) →
       exec (.linkLoss k) s = .next s))
  ∧ (∀ (h : AirHeader) (s : State),
     (∀ k : SlotId, ¬(s.air.use = .uplink k .leaving ∧ s.slots[k].state = .leaving ∧ fromEarbud k h s)) →
       exec (.leaveAck h) s = .next s)
  ∧ (∀ (k : SlotId) (s : State), 50 ≤ s.slots[k].supervision → ¬completesClosing k s →
     (s.slots[k].state = .leaving → s.slots[k].intervalCount < 3 →
       exec (.linkLoss k) s = .next (raiseAt Source.linkLoss 1 k (slotFreed k s)))
     ∧ (s.slots[k].state = .streaming →
       ∃ t, exec (.linkLoss k) s = .next t
         ∧ t.slots = (slotFreed k s).slots ∧ t.roster = (slotFreed k s).roster ∧ streamEnded k s t
         ∧ t.notices.records[Source.linkLoss].asserted = true
         ∧ t.notices.records[Source.linkLoss].latestCode = 1
         ∧ t.notices.records[Source.linkLoss].latestValue = BitVec.ofNat 32 k
         ∧ restStands s t))

/-- The event that frees the last slot in CLOSING completes the closing: IDLE with the close reason kept, the port stopped, the
stores emptied, the converters at their starting state but for class limit, base step and last measured step, a pending commit
carried out with COMMIT_DONE AT_ONCE, CALL_STATE raised, and nothing else told (R14, R101, R124, R158). The number of zeros in the last output block is the model's reading (log entry 22). -/
def Obligations.LastSlotCompletesClosing : Prop :=
  ∀ (h : AirHeader) (k : SlotId) (s : State), completesClosing k s → s.slots[k].state = .leaving →
      ∃ t, (3 ≤ s.slots[k].intervalCount → exec (.leaveUnanswered k) s = .next t)
        ∧ (s.air.use = .uplink k .leaving → fromEarbud k h s → exec (.leaveAck h) s = .next t)
        ∧ (s.slots[k].intervalCount < 3 → 50 ≤ s.slots[k].supervision →
          exec (.linkLoss k) s = .next (raiseAt Source.linkLoss 1 k t))
        ∧ t.call = { s.call with state := .idle }
        ∧ t.slots = (slotFreed k s).slots ∧ t.roster = (slotFreed k s).roster
        ∧ closingDone s t
        ∧ t.notices.records[Source.callState]
          = ⟨true, saturatingSucc 255 s.notices.records[Source.callState].occurrences,
            s.notices.records[Source.callState].indexSet, 0, s.call.closeReason.code.zeroExtend 32⟩
        ∧ (∀ other : SourceId, other ≠ Source.callState → other ≠ Source.commitDone →
          t.notices.records[other] = s.notices.records[other])
        ∧ t.notices.route = s.notices.route ∧ t.notices.classes = s.notices.classes
        ∧ t.notices.outstanding = s.notices.outstanding
        ∧ t.queues = s.queues ∧ t.voices = s.voices ∧ t.watches = s.watches ∧ t.pair = s.pair ∧ t.air = s.air
        ∧ t.control = s.control ∧ t.keyUnit = s.keyUnit ∧ t.draws = s.draws ∧ t.pending = s.pending

/-! ### The slot plan -/

/-- The next slot of the plan starts at its own place in the interval, and the time base is latched there as the anchor: slot
`n` of interval `i` at 40,000 × i + 4,000 × n; after slot 9 no slot starts. What uplink slot 2k + 1 listens for is decided by
the stream slot's state at its start: nothing when FREE, else the frame of that state; and nothing is sent in it (R54, R55,
Table 4.1). The time base as a slot starts is the model's (log entry 2), and that SLOT_START after slot 9 changes nothing is its
choice (log entry 5). -/
def Obligations.SlotStartLatchesAnchorAndListens : Prop :=
  (∀ s : State,
     (∀ n : Fin 10, s.air.slot = (if n = 0 then none else some (n - 1)) →
       ∃ (t : State) (start : Tick), exec .slotStart s = .next t ∧ t.air.slot = some n
         ∧ start = 40000 * s.air.interval + BitVec.ofNat 32 (4000 * n.val) ∧ t.air.anchor = start
         ∧ t.air.timeBase = (if (s.air.timeBase - start).toNat < 2 ^ 31 then s.air.timeBase else start)
         ∧ t.air.interval = s.air.interval ∧ t.pending = s.pending)
     ∧ (s.air.slot = some 9 → exec .slotStart s = .next s))
  ∧ (∀ (k : SlotId) (s : State), s.air.slot = some ⟨2 * k.val, by omega⟩ →
     exec .slotStart s
       = .next { s with
         air := slotBegun ⟨2 * k.val + 1, by omega⟩ (match s.slots[k].state with
           | .free => .idle
           | st => .uplink k st) none s.air })

/-- Downlink slot 2k (slot 0 where no work of the interval's end is left): a JOINING slot sends JOIN_REQ with the call rate, the
slot and the challenge, a LEAVING one LEAVE, a FREE one nothing; a STREAMING one sends DOWN with the oldest block of its store,
or repeats the last sent, or sends zeros, with the downlink sequence advanced and DOWN_SLIP REPEAT for a repeat (R54, R61, R68,
R75). The record of what a downlink slot carried is the model's (log entry 25), and so are the work left over from an interval's
end (log entry 3) and the time base where a slot is started late (log entry 2). -/
def Obligations.DownlinkSlotSendsByState : Prop :=
  ∀ (k : SlotId) (s : State),
    s.air.slot = (if k = 0 then none else some (Fin.ofNat 10 (2 * k.val - 1))) → (k = 0 → finishInterval s = s) →
      ∃ (t : State) (sent : Option AirFrame), exec .slotStart s = .next t
        ∧ besideAirStands s t ∧ t.pair = s.pair ∧ t.queues = s.queues
        ∧ t.air = slotBegun (Fin.ofNat 10 (2 * k.val)) (if s.slots[k].state = .free then .idle else .downlink k) sent s.air
        ∧ (∀ j : SlotId, j ≠ k → t.stores[j] = s.stores[j]
          ∧ t.slots[j] = { s.slots[j] with
            retryCandidate := s.slots[j].retryCandidate
              || (j.val + 1 == k.val && s.slots[j].state == .streaming && !s.slots[j].heard) })
        ∧ (s.slots[k].state = .free →
          sent = none ∧ t.slots[k] = s.slots[k] ∧ t.stores[k] = s.stores[k] ∧ t.notices = s.notices)
        ∧ ∀ (i : EntryId) (held : Contents), s.slots[k].rosterIndex = some i → s.roster[i].contents = some held →
          (s.slots[k].state = .joining →
            sent = some ⟨held.declared.address, Config.partAddress,
                .joinReq s.call.rate k (s.slots[k].challenge.getD 0)⟩
              ∧ t.slots[k] = { s.slots[k] with carried := .joinReq } ∧ t.stores[k] = s.stores[k] ∧ t.notices = s.notices)
          ∧ (s.slots[k].state = .leaving →
            sent = some ⟨held.declared.address, Config.partAddress, .leave⟩
              ∧ t.slots[k] = { s.slots[k] with carried := .leave } ∧ t.stores[k] = s.stores[k] ∧ t.notices = s.notices)
          ∧ (s.slots[k].state = .streaming →
            (∀ (b : Block) (rest : List Block), s.stores[k] = b :: rest →
              t.stores[k] = rest ∧ t.notices = s.notices
                ∧ t.slots[k] = { s.slots[k] with downSequence := s.slots[k].downSequence + 1, lastSent := some b }
                ∧ sent = some ⟨held.declared.address, Config.partAddress,
                  .down s.slots[k].downSequence (b.number.extractLsb' 0 16) false s.slots[k].lastAccepted b.samples⟩)
            ∧ (s.stores[k] = [] →
              t.stores[k] = [] ∧ t.notices = s.notices.occur Source.downSlip (some k) 2 (BitVec.ofNat 32 k)
                ∧ t.slots[k] = { s.slots[k] with downSequence := s.slots[k].downSequence + 1 }
                ∧ (∀ b : Block, s.slots[k].lastSent = some b →
                  sent = some ⟨held.declared.address, Config.partAddress,
                    .down s.slots[k].downSequence (b.number.extractLsb' 0 16) true s.slots[k].lastAccepted b.samples⟩)
                ∧ (s.slots[k].lastSent = none →
                  sent = some ⟨held.declared.address, Config.partAddress,
                    .down s.slots[k].downSequence 0 true s.slots[k].lastAccepted
                      (List.replicate s.call.rate.samples 0)⟩)))

/-- The arbiter grants slot 8 to the first retry candidate in turn after last granted: the grantee is a candidate, no
candidate lies between last granted and it in the turn, it becomes last granted, and its earbud is sent a POLL with the slot's
index; the other candidates stay candidates for slot 9; with no candidate nothing is granted (R70, R71, R72). The time base where
the slot is started late is the model's choice (log entry 2). -/
def Obligations.SpareSlotGoesInTurn : Prop :=
  ∀ s : State, s.air.slot = some 7 →
    ∃ t, exec .slotStart s = .next t
      ∧ besideAirStands s t ∧ t.pair = s.pair ∧ t.queues = s.queues ∧ t.stores = s.stores ∧ t.notices = s.notices
      ∧ (∀ k : SlotId, t.slots[k] = { s.slots[k] with retryCandidate := t.slots[k].retryCandidate })
      ∧ t.air = { slotBegun 8 t.air.use t.air.sent s.air with lastGranted := t.air.lastGranted }
      ∧ ∀ candidate : SlotId → Prop,
        (∀ k : SlotId, candidate k ↔
          (s.slots[k].retryCandidate = true ∨ (k = 3 ∧ s.slots[k].state = .streaming ∧ s.slots[k].heard = false))) →
          ((∀ k : SlotId, ¬candidate k) →
            t.air.use = .idle ∧ t.air.lastGranted = s.air.lastGranted ∧ t.air.sent = none ∧ t.slots = s.slots)
          ∧ ((∃ k : SlotId, candidate k) →
            ∃ k : SlotId, candidate k ∧ t.air.use = .spare k ∧ t.air.lastGranted = k
              ∧ (∀ j : SlotId, t.slots[j].retryCandidate = true ↔ candidate j ∧ j ≠ k)
              ∧ (∃ earbud : Address, t.air.sent = some ⟨earbud, Config.partAddress, .poll k⟩
                ∧ ∀ (i : EntryId) (held : Contents), s.slots[k].rosterIndex = some i → s.roster[i].contents = some held →
                  earbud = held.declared.address)
              ∧ ∀ j : SlotId, candidate j →
                ((k - s.air.lastGranted - 1 : SlotId) ≤ j - s.air.lastGranted - 1))

/-- Slot 9 belongs to pairing while the context is not IDLE, and then every candidate left is denied with code PAIRING; when
it is IDLE the arbiter grants slot 9 to the first candidate in turn after last granted, whose earbud is sent a POLL, and the
others are denied with SPARES_TAKEN; a denial counts in the stream's statistics and raises RETRY_DENIED with the slot, with no denial
the notices stand, and after slot 9's start no candidate is left. What a pairing turn sends in its first half follows the state of
the context: BEACON open to ASKs in LISTEN, OFFER when an attempt begins in OFFERED, BEACON closed otherwise in
OFFERED, KEYING and COMPARE, BIND in BINDING, which counts, and ABANDON while an end is pending (R34, R41, R46, R48, R71, R72,
R73). The time base where the slot is started late, and the order of the denials, are the model's choices (log entries 2, 39). -/
def Obligations.SlotNineServesPairingOrRetry : Prop :=
  (∀ s : State, s.air.slot = some 8 →
     ∃ t, exec .slotStart s = .next t
       ∧ besideAirStands s t ∧ t.stores = s.stores
       ∧ t.air = { slotBegun 9 t.air.use t.air.sent s.air with lastGranted := t.air.lastGranted }
       ∧ (∀ k : SlotId, t.slots[k] = { s.slots[k] with retryCandidate := false })
       ∧ (∀ k : SlotId, t.queues[k]
         = { s.queues[k] with stats := { s.queues[k].stats with retryDenials := t.queues[k].stats.retryDenials } })
       ∧ (s.pair.state = .idle → t.pair = s.pair)
       ∧ (s.pair.state = .idle → (∀ k : SlotId, s.slots[k].retryCandidate = false) →
         t.air.use = .idle ∧ t.air.lastGranted = s.air.lastGranted ∧ t.air.sent = none ∧ t.notices = s.notices
           ∧ t.queues = s.queues)
       ∧ (s.pair.state ≠ .idle →
         t.air.use = .turn s.pair.state s.pair.endPending.isSome ∧ t.air.lastGranted = s.air.lastGranted
           ∧ (∀ k : SlotId, t.queues[k].stats.retryDenials
             = if s.slots[k].retryCandidate then saturatingSucc max32 s.queues[k].stats.retryDenials
               else s.queues[k].stats.retryDenials)
           ∧ denialsTold 2 (fun k => s.slots[k].retryCandidate) s t)
       ∧ (s.pair.state = .idle → (∃ k : SlotId, s.slots[k].retryCandidate = true) →
         ∃ k : SlotId, s.slots[k].retryCandidate = true ∧ t.air.use = .spare k ∧ t.air.lastGranted = k
           ∧ (∀ j : SlotId, s.slots[j].retryCandidate = true →
             ((k - s.air.lastGranted - 1 : SlotId) ≤ j - s.air.lastGranted - 1))
           ∧ (∃ earbud : Address, t.air.sent = some ⟨earbud, Config.partAddress, .poll k⟩
             ∧ ∀ (i : EntryId) (held : Contents), s.slots[k].rosterIndex = some i → s.roster[i].contents = some held →
               earbud = held.declared.address)
           ∧ (∀ j : SlotId, t.queues[j].stats.retryDenials
             = if s.slots[j].retryCandidate = true ∧ j ≠ k then saturatingSucc max32 s.queues[j].stats.retryDenials
               else s.queues[j].stats.retryDenials)
           ∧ denialsTold 1 (fun j => s.slots[j].retryCandidate && j != k) s t))
  ∧ (∀ (partner : Address) (s : State), s.air.slot = some 8 → s.pair.state ≠ .idle →
     partner = (s.pair.partner.map Candidate.address).getD 0 →
     ∃ t, exec .slotStart s = .next t
       ∧ t.pair = (if s.pair.endPending = none ∧ s.pair.state = .binding
           then { s.pair with bindCount := saturatingSucc 10 s.pair.bindCount } else s.pair)
       ∧ t.air.sent = some (if s.pair.endPending ≠ none then ⟨partner, Config.partAddress, .abandon⟩
         else match s.pair.state with
           | .idle => ⟨0, 0, .abandon⟩
           | .listen => ⟨BitVec.allOnes 48, Config.partAddress, .beacon Config.partAddress true⟩
           | .offered => if s.pair.turnsWaited = 0
               then ⟨partner, Config.partAddress, .offer (s.pair.partValue.getD [])⟩
               else ⟨BitVec.allOnes 48, Config.partAddress, .beacon Config.partAddress false⟩
           | .keying => ⟨BitVec.allOnes 48, Config.partAddress, .beacon Config.partAddress false⟩
           | .compare => ⟨BitVec.allOnes 48, Config.partAddress, .beacon Config.partAddress false⟩
           | .binding => ⟨partner, Config.partAddress, .bindFrame⟩))

/-- The end of an air interval: the interval counter advances, the time base stands at the start of the next interval or past it, no
slot of it has begun, and the counts advance once: the supervision and interval counts of the slots, the quiet counts of waiting
queues, the window count with window ended, the turns waited where the turn began in OFFERED, the compare count and the intervals of
a key computation; what was heard and asked for in the interval is cleared, and everything else stands (R39, R41, R42, R45, R53, R61,
R68, R69, R90). That the events of the interval's end follow as commands is the model's reading (log entry 3), as is the record of
what a downlink slot carried (log entry 25); the time base where the end is given late, or before the half of a turn, is its choice
(log entries 2, 32). -/
def Obligations.IntervalEndAdvancesCounts : Prop :=
  ∀ s : State, s.air.slot ≠ none → (∀ began, s.air.use ≠ .turn began true) →
    ¬(s.pair.state = .binding ∧ s.pair.endPending = none ∧ 10 ≤ s.pair.bindCount) →
      ∃ (t : State) (now : Tick), exec .airIntervalEnd s = .next t
        ∧ now = (match s.air.use with
          | .turn _ _ => timeFrom 2000 s.air
          | _ => s.air.timeBase)
        ∧ t.air = { s.air with
          timeBase := if (now - 40000 * (s.air.interval + 1)).toNat < 2 ^ 31 then now else 40000 * (s.air.interval + 1)
          interval := s.air.interval + 1, slot := none, use := .idle, sent := none }
        ∧ (∀ k : SlotId,
          t.slots[k] = { s.slots[k] with
              supervision := if s.slots[k].state = .streaming ∨ s.slots[k].state = .leaving
                then (if s.slots[k].heard then 0 else saturatingSucc 50 s.slots[k].supervision) else s.slots[k].supervision
              intervalCount := if (s.slots[k].state = .joining ∧ s.slots[k].carried = .joinReq)
                  ∨ (s.slots[k].state = .leaving ∧ s.slots[k].carried = .leave)
                then saturatingSucc 20 s.slots[k].intervalCount else s.slots[k].intervalCount
              heard := false, retryCandidate := false, carried := .nothing }
            ∧ t.queues[k] = { s.queues[k] with
              quiet := if (s.queues[k].state = .filling ∨ s.queues[k].state = .starved) ∧ s.queues[k].arrival = false
                then saturatingSucc 4 s.queues[k].quiet else s.queues[k].quiet
              arrival := false })
        ∧ t.pair = { s.pair with
          windowCount := if s.pair.state = .idle then s.pair.windowCount
            else saturatingSucc (100 * s.pair.window) s.pair.windowCount
          windowEnded := if s.pair.state = .idle then s.pair.windowEnded
            else decide (100 * s.pair.window ≤ saturatingSucc (100 * s.pair.window) s.pair.windowCount)
          turnsWaited := if s.pair.endPending = none ∧ s.air.use = .turn .offered false
            then saturatingSucc 4 s.pair.turnsWaited else s.pair.turnsWaited
          compareCount := if s.pair.state = .compare ∧ s.pair.endPending = none
            then saturatingSucc 3000 s.pair.compareCount else s.pair.compareCount }
        ∧ t.keyUnit = { s.keyUnit with
          running := s.keyUnit.running.map fun c => { c with intervals := saturatingSucc 5 c.intervals } }
        ∧ besideAirStands { s with keyUnit := t.keyUnit } t ∧ t.stores = s.stores ∧ t.notices = s.notices

/-! ### Arrivals -/

/-- An UP taken for a STREAMING slot, in its uplink slot or in a spare slot granted to it: a malformed one has no effect;
else the slot is heard and a down miss counts, and the queue ignores it when STOPPED, or discards it as DUPLICATE or as LATE,
each counted and reported. An UP that does not come from the earbud of a STREAMING slot, in the uplink slot that began so or in the
spare slot granted to it, is ignored (R56, R57, R65, R72, R82, R83, R84). -/
def Obligations.UpIsHeardThenJudged : Prop :=
  (∀ (h : AirHeader) (f : UpFrame) (k : SlotId) (retried : Bool) (s : State),
    s.air.use = (if retried then .spare k else .uplink k .streaming) → s.slots[k].state = .streaming → fromEarbud k h s →
      (¬upFits f s → exec (.up h f) s = .next s)
      ∧ (upFits f s →
        (s.queues[k].state = .stopped → exec (.up h f) s = .next (upHeard k f s))
        ∧ (s.queues[k].state ≠ .stopped →
          ((∃ a : Sequence, (s.slots[k].lastAccepted = some a ∨ s.queues[k].entries.head?.map QueueEntry.sequence = some a)
              ∧ newer f.sequence a = false) →
            exec (.up h f) s
              = .next (raiseAt Source.arrivalDiscard 1 k
                { upHeard k f s with
                  queues := (upHeard k f s).queues.set k
                    { (upHeard k f s).queues[k] with
                      stats := { (upHeard k f s).queues[k].stats with
                        duplicates := saturatingSucc max32 s.queues[k].stats.duplicates } } }))
          ∧ ((∀ a : Sequence, s.slots[k].lastAccepted = some a ∨ s.queues[k].entries.head?.map QueueEntry.sequence = some a →
                newer f.sequence a = true) →
              s.convs[k].edgeState ≠ .notInForce → (f.stamp - s.convs[k].claimedEdge).toInt < 0 →
            exec (.up h f) s
              = .next (raiseAt Source.arrivalDiscard 2 k
                { upHeard k f s with
                  queues := (upHeard k f s).queues.set k
                    { (upHeard k f s).queues[k] with
                      stats := { (upHeard k f s).queues[k].stats with
                        lates := saturatingSucc max32 s.queues[k].stats.lates } } })))))
  ∧ (∀ (h : AirHeader) (f : UpFrame) (s : State),
     (∀ k : SlotId, ¬((s.air.use = .uplink k .streaming ∨ s.air.use = .spare k) ∧ s.slots[k].state = .streaming
       ∧ fromEarbud k h s)) →
       exec (.up h f) s = .next s)

/-- An accepted arrival, in one event: last accepted, the counts, the quiet count and the arrival flag, and a down miss when its
down-ack is no. With a ready lag of at most 1,000,000 ticks it gives the drift tracker the point (anchor − ready lag, stamp), which
opens a closed window in the present interval or is the last point of the open one; a larger ready lag gives none. A full queue
drops its oldest entry with QUEUE_OVERRUN: the converter abandons a partly read head, and else gives up a real follower. The entry
is appended with its anchor, and a waiting queue at its start level enters PLAYING with a fresh start (R65, R79, R85, R86, R91,
R102, R103, R117). What the converter keeps as it abandons a head is read from R86 and R117 (log entry 33). -/
def Obligations.AcceptedArrivalIsQueued : Prop :=
  ∀ (h : AirHeader) (f : UpFrame) (k : SlotId) (retried : Bool) (s : State),
    s.air.use = (if retried then .spare k else .uplink k .streaming) → s.slots[k].state = .streaming → fromEarbud k h s →
    upFits f s → s.queues[k].state ≠ .stopped →
    (∀ a : Sequence, s.slots[k].lastAccepted = some a ∨ s.queues[k].entries.head?.map QueueEntry.sequence = some a →
      newer f.sequence a = true) →
    (s.convs[k].edgeState = .notInForce ∨ 0 ≤ (f.stamp - s.convs[k].claimedEdge).toInt) →
      ∃ (t : State) (kept : List QueueEntry) (p : Point) (offered roomMade : Converter), exec (.up h f) s = .next t
        ∧ kept = (if 8 ≤ s.queues[k].entries.length then s.queues[k].entries.tail else s.queues[k].entries)
        ∧ t.slots = s.slots.set k { s.slots[k] with heard := true, lastAccepted := some f.sequence }
        ∧ t.queues = s.queues.set k
          { s.queues[k] with
            entries := kept ++ [⟨f.sequence, f.stamp, s.air.anchor, f.readyLag, retried, f.noMic, f.samples⟩]
            state := if s.queues[k].state ≠ .playing ∧ s.queues[k].startLevel ≤ kept.length + 1 then .playing
              else s.queues[k].state
            quiet := 0
            arrival := true
            stats := { s.queues[k].stats with
              acceptedArrivals := saturatingSucc max32 s.queues[k].stats.acceptedArrivals
              retriedArrivals := if retried then saturatingSucc max32 s.queues[k].stats.retriedArrivals
                else s.queues[k].stats.retriedArrivals
              overruns := if 8 ≤ s.queues[k].entries.length then saturatingSucc max32 s.queues[k].stats.overruns
                else s.queues[k].stats.overruns
              downMisses := if f.downAck then s.queues[k].stats.downMisses
                else saturatingSucc max32 s.queues[k].stats.downMisses } }
        ∧ p = ⟨s.air.anchor - f.readyLag.zeroExtend 32, f.stamp⟩
        ∧ (1000000 < f.readyLag.toNat → offered = s.convs[k])
        ∧ (f.readyLag.toNat ≤ 1000000 →
          offered = if s.convs[k].windowOpen = true then
              { s.convs[k] with lastPoint := some p, pointCount := s.convs[k].pointCount + 1 }
            else
              { s.convs[k] with
                windowOpen := true, firstPoint := some p, lastPoint := some p, pointCount := 1,
                openingInterval := s.air.interval })
        ∧ (s.queues[k].entries.length < 8 → roomMade = offered)
        ∧ (8 ≤ s.queues[k].entries.length →
          roomMade = if offered.current = .real then { offered with current := .none, index := 0 }
            else if offered.follower = .real then { offered with follower := .none }
            else offered)
        ∧ t.convs = s.convs.set k
          { roomMade with
            freshStartPending := s.convs[k].freshStartPending
              || (s.queues[k].state != .playing && s.queues[k].startLevel ≤ kept.length + 1) }
        ∧ t.notices = (if 8 ≤ s.queues[k].entries.length
            then s.notices.occur Source.queueOverrun (some k) 1 (BitVec.ofNat 32 k) else s.notices)
        ∧ t.roster = s.roster ∧ t.stores = s.stores ∧ t.voices = s.voices ∧ restStands s t

/-- The fill timeout: a waiting queue with an entry and four quiet intervals enters PLAYING with a fresh start; no other queue
is touched, and a queue that is not waiting, is empty, or has fewer quiet intervals, stays as it is (R90, R91). That a timeout
not due changes nothing is the model's choice (log entry 5). -/
def Obligations.FillTimeoutStartsPlay : Prop :=
  ∀ (k : SlotId) (s : State),
    (((s.queues[k].state = .filling ∨ s.queues[k].state = .starved) ∧ 4 ≤ s.queues[k].quiet ∧ s.queues[k].entries ≠ []) →
      exec (.fillTimeout k) s
        = .next { s with
          queues := s.queues.set k { s.queues[k] with state := .playing }
          convs := s.convs.set k { s.convs[k] with freshStartPending := true } })
    ∧ (¬((s.queues[k].state = .filling ∨ s.queues[k].state = .starved) ∧ 4 ≤ s.queues[k].quiet
        ∧ s.queues[k].entries ≠ []) →
      exec (.fillTimeout k) s = .next s)

/-- QUEUE_SET clamps the start level and the set point to 1..6 and writes them into the named queue, or into all four for ALL,
with OK_CLAMPED if either clamp changed its value; any other slot value is BAD_ARG. STATS_GET answers OK with 71 bytes and
changes nothing: the fifteen counts and the base step little-endian in the order of Table 5.3, the last measured step, the depth
and the queue's state (R96, R98, R178). What a step of 2^32 or more shows is left open (log entry 10). -/
def Obligations.QueueSetAndStatsGet : Prop :=
  (∀ (tag slot start point : Byte) (s : State), takeable ⟨0x10, tag, [slot, start, point]⟩ s →
     ∃ (a b : Nat) (status : Byte),
       a = max 1 (min 6 start.toNat) ∧ b = max 1 (min 6 point.toNat)
         ∧ status = (if a = start.toNat ∧ b = point.toNat then 0 else 1)
         ∧ (∀ k : SlotId, slot = BitVec.ofNat 8 k →
           exec (.queueSet tag [slot, start, point]) s
             = .next (replied 0x90 tag [status]
               { s with queues := s.queues.set k { s.queues[k] with startLevel := a, setPoint := b } }))
         ∧ (slot = 4 →
           exec (.queueSet tag [slot, start, point]) s
             = .next (replied 0x90 tag [status]
               { s with queues := s.queues.map fun q => { q with startLevel := a, setPoint := b } }))
         ∧ (5 ≤ slot.toNat → exec (.queueSet tag [slot, start, point]) s = .next (replied 0x90 tag [4] s)))
  ∧ (∀ (tag : Byte) (s : State),
     (∀ slot : Byte, 4 ≤ slot.toNat → takeable ⟨0x17, tag, [slot]⟩ s →
       exec (.statsGet tag [slot]) s = .next (replied 0x97 tag [4] s))
     ∧ ∀ k : SlotId, takeable ⟨0x17, tag, [BitVec.ofNat 8 k]⟩ s →
     s.convs[k].lastMeasured < 2 ^ 32 →
       ∃ body : List Byte, exec (.statsGet tag [BitVec.ofNat 8 k]) s = .next (replied 0x97 tag body s)
         ∧ body.length = 71 ∧ body.getD 0 9 = 0
         ∧ (∀ n : Fin 17, ∀ b : Fin 4, body.getD (1 + 4 * n.val + b.val) 0
           = BitVec.ofNat 8 (([s.queues[k].stats.acceptedArrivals, s.queues[k].stats.duplicates, s.queues[k].stats.lates,
               s.queues[k].stats.overruns, s.queues[k].stats.flushed, s.queues[k].stats.consumed,
               s.queues[k].stats.retriedArrivals, s.queues[k].stats.retryDenials, s.queues[k].stats.gapFilled,
               s.queues[k].stats.starvedBlocks, s.queues[k].stats.resyncs, s.queues[k].stats.discontinuities,
               s.queues[k].stats.downMisses, s.queues[k].stats.windowsAccepted, s.queues[k].stats.windowsRejected,
               s.convs[k].baseStep, s.convs[k].lastMeasured].getD n.val 0) / 256 ^ b.val))
         ∧ body.getD 69 0 = BitVec.ofNat 8 s.queues[k].entries.length
         ∧ body.getD 70 9 = (match s.queues[k].state with
           | .stopped => 0
           | .filling => 1
           | .playing => 2
           | .starved => 3))

/-! ### Drift tracking and rate conversion -/

/-- The close of a drift window, due 64 intervals after its opening one. With fewer than 16 points, or nothing to divide, it is
rejected with FEW_POINTS and no step is measured. Else the measured step is 2^24 × ΔS × P divided by T with round half up: more
than 4 × L away from 2^24 it is rejected as WILD; accepted, the base step moves a quarter of the way, rounded toward zero,
toward the target clamped to 2^24 ± L, with CLAMPED if the clamp acted, and the next window opens from the last point (R103 to
R105, R107). What a rejected window clears beside its state is the model's reading (log entry 34). -/
def Obligations.DriftWindowIsJudged : Prop :=
  ∀ (k : SlotId) (a z : Point) (s : State),
    s.convs[k].windowOpen = true → 65 ≤ (s.air.interval - s.convs[k].openingInterval).toNat → linkLossDue s.slots[k] = false →
    s.convs[k].firstPoint = some a → s.convs[k].lastPoint = some z →
      ∃ (deltaS t measured target : Nat),
        deltaS = (z.stamp - a.stamp).toNat ∧ t = (z.time - a.time).toNat
          ∧ measured = (2 * (16777216 * deltaS * s.call.rate.period) + t) / (2 * t)
          ∧ target = max (16777216 - s.convs[k].classLimit) (min (16777216 + s.convs[k].classLimit) measured)
          ∧ ((s.convs[k].pointCount < 16 ∨ deltaS = 0 ∨ t = 0) →
            exec (.driftWindowClose k) s
              = .next (raiseAt Source.driftHold 1 k
                { s with
                  convs := s.convs.set k
                    { s.convs[k] with windowOpen := false, firstPoint := none, lastPoint := none, pointCount := 0 }
                  queues := s.queues.set k
                    { s.queues[k] with
                      stats := { s.queues[k].stats with
                        windowsRejected := saturatingSucc max32 s.queues[k].stats.windowsRejected } } }))
          ∧ (16 ≤ s.convs[k].pointCount → deltaS ≠ 0 → t ≠ 0 →
            (4 * s.convs[k].classLimit < ((measured : Int) - 16777216).natAbs →
              exec (.driftWindowClose k) s
                = .next (raiseAt Source.driftHold 2 k
                  { s with
                    convs := s.convs.set k
                      { s.convs[k] with
                        windowOpen := false, firstPoint := none, lastPoint := none, pointCount := 0,
                        lastMeasured := measured }
                    queues := s.queues.set k
                      { s.queues[k] with
                        stats := { s.queues[k].stats with
                          windowsRejected := saturatingSucc max32 s.queues[k].stats.windowsRejected } } }))
            ∧ (((measured : Int) - 16777216).natAbs ≤ 4 * s.convs[k].classLimit →
              ∃ u, u = { s with
                  convs := s.convs.set k
                    { s.convs[k] with
                      lastMeasured := measured, firstPoint := some z, lastPoint := some z, pointCount := 1,
                      openingInterval := s.convs[k].openingInterval + 64,
                      baseStep :=
                        ((s.convs[k].baseStep : Int) + Int.tdiv ((target : Int) - s.convs[k].baseStep) 4).toNat }
                  queues := s.queues.set k
                    { s.queues[k] with
                      stats := { s.queues[k].stats with
                        windowsAccepted := saturatingSucc max32 s.queues[k].stats.windowsAccepted } } }
                ∧ exec (.driftWindowClose k) s
                  = .next (if target = measured then u else raiseAt Source.driftHold 3 k u)))

/-- "The result always lies between x(j) and x(j + 1), both included": an interpolated sample needs no clamp. "Every applied
step lies within 2^24 − (L + 1024) .. 2^24 + (L + 1024)": the base step plus the clamped trim of 32 steps for each entry
between depth and set point (R106, R108, R109). -/
def Obligations.ConversionArithmeticIsBounded : Prop :=
  (∀ (x0 x1 : Sample) (fraction : Nat), fraction < 16777216 →
     min x0.toInt x1.toInt ≤ (interpolate x0 x1 fraction).toInt ∧ (interpolate x0 x1 fraction).toInt ≤ max x0.toInt x1.toInt
       ∧ (interpolate x0 x1 fraction).toInt = x0.toInt + ((x1.toInt - x0.toInt) * fraction + 8388608) / 16777216)
  ∧ (∀ (k : SlotId) (s : State), baseStepLaw s → s.convs[k].classLimit ≤ 2517 →
     (blockStep s.convs[k] s.queues[k] : Int)
         = s.convs[k].baseStep + max (-1024) (min 1024 (32 * ((s.queues[k].entries.length : Int) - s.queues[k].setPoint)))
       ∧ 16777216 ≤ blockStep s.convs[k] s.queues[k] + s.convs[k].classLimit + 1024
       ∧ blockStep s.convs[k] s.queues[k] ≤ 16777216 + s.convs[k].classLimit + 1024)

/-- The choice of the next frame. With fill frames pending it is a fill frame of a quarter of the fill source; else the oldest
entry not entered decides by its gap from the claimed edge: 0 continues, N and 2 × N call for a fill frame of half the fill
source with 1 and 2 pending, any other gap is a discontinuity, which abandons the drift window, moves the edge and sets the
fraction to 0; with no entry there is none. Entering a frame makes it current with no follower chosen: a real one puts the claimed
edge N past its stamp and becomes the fill source, a fill frame moves the edge on by N, is one less pending, and counts as gap-filled
(R110, R111, R112). What the abandoned window clears beside its state is the model's
reading (log entry 34). -/
def Obligations.NextFrameIsChosenByGap : Prop :=
  (∀ (n : Nat) (r : Reader), 0 < n → n ≤ 320 →
    (0 < r.conv.fillPending →
      chooseNext n r
        = some (.fill ((r.conv.fillSource.getD (List.replicate n 0)).map fun x => BitVec.ofInt 16 (x.toInt.tdiv 4)), r))
    ∧ (r.conv.fillPending = 0 →
      (nextUnentered r.conv r.queue = none → chooseNext n r = none)
      ∧ (∀ e : QueueEntry, nextUnentered r.conv r.queue = some e →
        (e.stamp = r.conv.claimedEdge → chooseNext n r = some (.real, r))
        ∧ (∀ missing : Nat, (missing = 1 ∨ missing = 2) → e.stamp = r.conv.claimedEdge + BitVec.ofNat 32 (missing * n) →
          chooseNext n r
            = some (.fill ((r.conv.fillSource.getD (List.replicate n 0)).map fun x => BitVec.ofInt 16 (x.toInt.tdiv 2)),
              { r with conv := { r.conv with fillPending := missing } }))
        ∧ (e.stamp ≠ r.conv.claimedEdge → e.stamp ≠ r.conv.claimedEdge + BitVec.ofNat 32 n →
            e.stamp ≠ r.conv.claimedEdge + BitVec.ofNat 32 (2 * n) →
          chooseNext n r
            = some (.real, { r with
              conv := { r.conv with
                windowOpen := false, firstPoint := none, lastPoint := none, pointCount := 0, claimedEdge := e.stamp, fraction := 0 }
              queue := { r.queue with
                stats := { r.queue.stats with
                  discontinuities := saturatingSucc max32 r.queue.stats.discontinuities } } })))))
  ∧ (∀ (n : Nat) (r : Reader),
     (∀ (e : QueueEntry) (rest : List QueueEntry), r.queue.entries = e :: rest →
       enterFrame n .real r
         = { r with
           conv := { r.conv with
             current := .real, follower := .none, claimedEdge := e.stamp + BitVec.ofNat 32 n,
             fillSource := some (entrySound n e) } })
     ∧ (∀ samples : List Sample,
       enterFrame n (.fill samples) r
         = { r with
           conv := { r.conv with
             current := .fill samples, follower := .none, claimedEdge := r.conv.claimedEdge + BitVec.ofNat 32 n,
             fillPending := r.conv.fillPending - 1 }
           queue := { r.queue with
             stats := { r.queue.stats with gapFilled := saturatingSucc max32 r.queue.stats.gapFilled } } }))

/-- What a stream gives to a block, by its queue's state: nothing in STOPPED and FILLING, N samples in PLAYING and STARVED. In
PLAYING a fresh start that is pending comes first, then N output samples are formed in order with the applied step of the block, each
an interpolation or, once the queue has starved, concealment. The block is then completed: its samples are the last output block, its
outcome CONCEALED when a sample of concealment or of a fill frame went into it and else GOOD, the starved-blocks count or the
concealment run following it. In STARVED no entry is read: the whole block is half of the last output block, and silence at the
fourth concealed block in a row, CONCEALED and counted (R81, R88, R89, R99, R108, R109, R110, R113, R114, R115, R116). A fresh
start with no entry held, which no run reaches, is the model's (log entry 28). -/
def Obligations.ConversionGivesBlock : Prop :=
  ∀ (n : Nat) (c : Converter) (q : RxQueue),
    ((q.state = .stopped ∨ q.state = .filling) → convertBlock n c q = ⟨c, q, none, false⟩)
    ∧ (q.state = .playing →
      ∃ (step : Nat) (r : Nat → Reader) (out : List Sample),
        step = (c.baseStep + max (-1024) (min 1024 (32 * ((q.entries.length : Int) - q.setPoint)))).toNat
        ∧ r 0 = blockBegun n step c q ∧ (∀ i : Nat, i < n → sampleFormed n step (r i) (r (i + 1)))
        ∧ out.length = n ∧ (∀ i : Nat, i < n → (r (i + 1)).outReversed.head? = out[i]?)
        ∧ convertBlock n c q
          = ⟨{ (r n).conv with
              lastOutput := out, concealmentRun := if (r n).starved then (r n).conv.concealmentRun else 0 },
            { (r n).queue with
              stats := { (r n).queue.stats with
                starvedBlocks := if (r n).starved then saturatingSucc max32 (r n).queue.stats.starvedBlocks
                  else (r n).queue.stats.starvedBlocks }
              quality := (r n).queue.quality.tail ++ [if (r n).starved ∨ (r n).usedFill then .concealed else .good] },
            some out, (r n).starved⟩)
    ∧ (q.state = .starved →
      ∃ out : List Sample, out.length = n
        ∧ (∀ i : Nat, i < n →
          out.getD i 0 = (if c.concealmentRun < 3 then BitVec.ofInt 16 ((c.lastOutput.getD i 0).toInt.tdiv 2) else 0))
        ∧ convertBlock n c q
          = ⟨{ c with lastOutput := out, concealmentRun := if c.concealmentRun < 4 then c.concealmentRun + 1 else c.concealmentRun },
            { q with
              stats := { q.stats with starvedBlocks := saturatingSucc max32 q.stats.starvedBlocks }
              quality := q.quality.tail ++ [.concealed] },
            some out, false⟩)

/-! ### The Call Port -/

/-- A sync in HUNTING or FREE_RUNNING: it sets the reference, and the good count follows the spacing; a good spacing that finds
the count at 16 is the lock event, which starts a block with word 0: in OPENING the call is LIVE at block 0, in LOST it is back
in resume-to, in CLOSING it stands. In STOPPED a sync is ignored (R5, R10, R152, R153, R154, R158). A word is exchanged whole at
its sync (log entry 16). -/
def Obligations.SyncHuntsAndLocks : Prop :=
  ∀ (elapsed : Tick) (first second : BitVec 16) (s : State),
    (s.port.state = .stopped → exec (.sync elapsed first second) s = .next (later elapsed s))
    ∧ ((s.port.state = .hunting ∨ s.port.state = .freeRunning) →
      ∀ (now : Tick) (hunted : PortRecord), now = s.air.timeBase + elapsed →
        hunted = { s.port with reference := some now, driven := callPlace s.call.wordPosition 0 } →
          (s.port.reference = none →
            exec (.sync elapsed first second) s = .next { later elapsed s with port := { hunted with goodCount := 0 } })
          ∧ (∀ ref : Tick, s.port.reference = some ref →
            (¬spacingIsGood s.call.rate (now - ref).toNat →
              exec (.sync elapsed first second) s = .next { later elapsed s with port := { hunted with goodCount := 0 } })
            ∧ (spacingIsGood s.call.rate (now - ref).toNat → s.port.goodCount < 16 →
              exec (.sync elapsed first second) s
                = .next { later elapsed s with port := { hunted with goodCount := s.port.goodCount + 1 } })
            ∧ (spacingIsGood s.call.rate (now - ref).toNat → 16 ≤ s.port.goodCount →
              ∃ locked : State,
                locked = { later elapsed s with
                  port := { hunted with
                    state := .synced, goodCount := 0, wordIndex := 0, freeRunDue := none,
                    downGathering := [downWord s.call first second], downCompleted := none, upSending := none } }
                ∧ exec (.sync elapsed first second) s
                  = .next (match s.call.state with
                    | .opening => raise Source.callState 2 (s.call.closeReason.code.zeroExtend 32)
                        { locked with call := { s.call with state := .live, blockNumber := 0 } }
                    | .lost => raise Source.callState (match s.call.resumeTo with
                          | .live => 2
                          | .held => 3) (s.call.closeReason.code.zeroExtend 32)
                        { locked with
                          call := { s.call with
                            state := match s.call.resumeTo with
                              | .live => .live
                              | .held => .held
                            freeRunCount := 0 } }
                    | _ => locked))))

/-- A sync in SYNCED: inside a block it begins the next word exchange; the N-th carries the block event: the words gathered are
DOWN, the streams are converted, the voices formed, the sinks mixed, counted, watched and stored, the block number advances, the
UP sink's block (the downlink block with loopback PORT) is sent next, and word 0 of the next block is exchanged (R12, R74, R118,
R125, R127, R130 to R133, R142, R147, R152, R155). A word is exchanged whole at its sync (log entry 16), the streams, voices and
sinks of a block are taken in rising order (log entry 13). -/
def Obligations.SyncExchangesWords : Prop :=
  ∀ (elapsed : Tick) (first second : BitVec 16) (s : State) (now : Tick),
    s.port.state = .synced → now = s.air.timeBase + elapsed →
      (s.port.wordIndex + 1 < s.call.rate.samples →
        exec (.sync elapsed first second) s
          = .next { later elapsed s with
            port := { s.port with
              reference := some now, wordIndex := s.port.wordIndex + 1,
              downGathering := s.port.downGathering ++ [downWord s.call first second],
              driven := callPlace s.call.wordPosition
                (lineOrder s.call.byteOrder ((s.port.upSending.getD []).getD (s.port.wordIndex + 1) 0)) } })
      ∧ (s.call.rate.samples ≤ s.port.wordIndex + 1 →
        ∃ (t : State) (up : List Sample), exec (.sync elapsed first second) s = .next t
          ∧ blockFormed s.port.downGathering up s t
          ∧ t.notices.records[Source.callState] = s.notices.records[Source.callState]
          ∧ t.call = { s.call with blockNumber := s.call.blockNumber + 1 }
          ∧ t.air = { s.air with timeBase := now }
          ∧ ∃ next : List Sample,
            next = (match s.call.loopback with
              | .off => up
              | .port => s.port.downGathering)
            ∧ t.port = { s.port with
              reference := some now, wordIndex := 0, lastBlockEventTime := now,
              downGathering := [downWord s.call first second], downCompleted := some s.port.downGathering,
              upSending := some next,
              driven := callPlace s.call.wordPosition (lineOrder s.call.byteOrder (next.getD 0 0)) })

/-- Sync loss once 32 × P ticks have passed without a sync, and not before: FREE_RUNNING, and in LIVE or HELD the call LOST with
resume-to the state left; a block event already overdue is taken with it, and counts (R9, R156; log entry 11). Free-running: the
event falls when the time base reaches free-run due, with DOWN of zeros, the next due 40,000 ticks on; in LOST it counts, and
the two-hundredth, its block formed, enters CLOSING with SYNC_LOST (R11, R13, R157). The order of the two-hundredth event and the closing is the
model's reading (log entry 12), and that an event not due lets only time pass its choice (log entry 5), as is the order of the slots
as the closing begins (log entry 37) and of streams, voices and sinks in a block (log entry 13). -/
def Obligations.SyncLossAndFreeRunning : Prop :=
  ∀ (elapsed now : Tick) (s : State), now = s.air.timeBase + elapsed →
    ((s.port.state ≠ .synced ∨ ∀ ref : Tick, s.port.reference = some ref → (now - ref).toNat < 32 * s.call.rate.period) →
      exec (.syncLoss elapsed) s = .next (later elapsed s))
    ∧ (∀ ref : Tick, s.port.state = .synced → s.port.reference = some ref → 32 * s.call.rate.period ≤ (now - ref).toNat →
      ∃ lost : PortRecord,
        lost = { s.port with
          state := .freeRunning, goodCount := 0, downGathering := [], upSending := none,
          freeRunDue := some (s.port.lastBlockEventTime + 40000) }
        ∧ ((now - s.port.lastBlockEventTime).toNat < 40000 →
          exec (.syncLoss elapsed) s
            = .next (match s.call.state with
              | .live => raise Source.callState 4 (s.call.closeReason.code.zeroExtend 32)
                  { later elapsed s with
                    port := lost, call := { s.call with state := .lost, resumeTo := .live, freeRunCount := 0 } }
              | .held => raise Source.callState 4 (s.call.closeReason.code.zeroExtend 32)
                  { later elapsed s with
                    port := lost, call := { s.call with state := .lost, resumeTo := .held, freeRunCount := 0 } }
              | _ => { later elapsed s with port := lost }))
        ∧ (40000 ≤ (now - s.port.lastBlockEventTime).toNat →
          s.call.state = .live ∨ s.call.state = .held ∨ s.call.state = .closing →
            ∃ t, exec (.syncLoss elapsed) s = .next t
              ∧ t.port = { lost with
                downCompleted := some (List.replicate s.call.rate.samples 0), lastBlockEventTime := now,
                freeRunDue := some (if (now - s.port.lastBlockEventTime).toNat < 80000
                  then s.port.lastBlockEventTime + 80000 else now + 40000) }
              ∧ t.call = (match s.call.state with
                | .live => { s.call with
                    state := .lost, resumeTo := .live, freeRunCount := 1, blockNumber := s.call.blockNumber + 1 }
                | .held => { s.call with
                    state := .lost, resumeTo := .held, freeRunCount := 1, blockNumber := s.call.blockNumber + 1 }
                | _ => { s.call with blockNumber := s.call.blockNumber + 1 })
              ∧ t.air = { s.air with timeBase := now }
              ∧ t.notices.records[Source.callState] = (if s.call.state = .closing then s.notices.records[Source.callState]
                else ⟨true, saturatingSucc 255 s.notices.records[Source.callState].occurrences,
                  s.notices.records[Source.callState].indexSet, 4, s.call.closeReason.code.zeroExtend 32⟩)
              ∧ ∃ up : List Sample, blockFormed (List.replicate s.call.rate.samples 0) up s t))
    ∧ (∀ due : Tick, s.port.state = .freeRunning → s.port.freeRunDue = some due →
      ((now - s.port.lastBlockEventTime).toNat < (due - s.port.lastBlockEventTime).toNat →
        exec (.freeRunningBlockEvent elapsed) s = .next (later elapsed s))
      ∧ ((due - s.port.lastBlockEventTime).toNat ≤ (now - s.port.lastBlockEventTime).toNat →
        ∃ (formed : State) (up : List Sample), blockFormed (List.replicate s.call.rate.samples 0) up s formed
          ∧ formed.air = { s.air with timeBase := now }
          ∧ formed.port = { s.port with
            downCompleted := some (List.replicate s.call.rate.samples 0), lastBlockEventTime := now,
            freeRunDue := some (due + 40000) }
          ∧ formed.notices.records[Source.callState] = s.notices.records[Source.callState]
          ∧ formed.call = { s.call with
            blockNumber := s.call.blockNumber + 1
            freeRunCount := if s.call.state = .lost then min 200 (s.call.freeRunCount + 1) else s.call.freeRunCount }
          ∧ ((s.call.state ≠ .lost ∨ s.call.freeRunCount < 199) → exec (.freeRunningBlockEvent elapsed) s = .next formed)
          ∧ (s.call.state = .lost → 199 ≤ s.call.freeRunCount →
            ∃ t, exec (.freeRunningBlockEvent elapsed) s = .next t ∧ closingEntered .syncLost formed t)))

/-! ### The Mix Matrix -/

/-- An accepted MIX_SET writes its one to twenty-four items into the shadow bank: each gain cell and each mute takes the last
value the list gives it, gains clamped to 16,384 with OK_CLAMPED; the active bank stands. One item that names nothing that
exists refuses the whole list with BAD_ARG (R122, R123). -/
def Obligations.MixSetWritesShadow : Prop :=
  ∀ (tag : Byte) (s : State),
    (∀ items : List MixItem, 1 ≤ items.length → items.length ≤ 24 → (∀ item ∈ items, itemFits item) →
      takeable ⟨0x11, tag, items.flatMap itemBytes⟩ s →
        ∃ bank : Bank,
          exec (.mixSet tag (items.flatMap itemBytes)) s
            = .next (replied 0x91 tag
              [if ∃ item ∈ items, itemOver item = true then 1 else 0]
              { s with mix := { s.mix with shadow := bank } })
          ∧ (∀ src : MixSource, ∀ given : List Nat,
            given = items.filterMap (fun item => match item with
              | .upCell x g => if x = src then some g else none
              | _ => none) →
              match src with
              | .v0 => bank.up.v0 = lastGain given s.mix.shadow.up.v0
              | .v1 => bank.up.v1 = lastGain given s.mix.shadow.up.v1
              | .down => bank.up.down = lastGain given s.mix.shadow.up.down
              | .own => True)
          ∧ (∀ (k : SlotId) (src : MixSource) (given : List Nat),
            given = items.filterMap (fun item => match item with
              | .earCell j x g => if j = k ∧ x = src then some g else none
              | _ => none) →
              match src with
              | .v0 => bank.ear[k].v0 = lastGain given s.mix.shadow.ear[k].v0
              | .v1 => bank.ear[k].v1 = lastGain given s.mix.shadow.ear[k].v1
              | .down => bank.ear[k].down = lastGain given s.mix.shadow.ear[k].down
              | .own => bank.ear[k].own = lastGain given s.mix.shadow.ear[k].own)
          ∧ (∀ j : SinkId,
            bank.mutes[j] = ((items.filterMap fun item => match item with
              | .mute x on => if x = j then some on else none
              | _ => none).getLast?).getD s.mix.shadow.mutes[j]))
    ∧ (∀ (before after : List Byte) (sink source low high : Byte),
      before.length % 4 = 0 → after.length % 4 = 0 → before.length + after.length ≤ 92 →
      (5 ≤ sink.toNat ∨ (4 ≤ source.toNat ∧ source ≠ 255) ∨ (sink = 0 ∧ source = 3)
        ∨ (source = 255 ∧ (2 ≤ low.toNat ∨ high ≠ 0))) →
      takeable ⟨0x11, tag, before ++ [sink, source, low, high] ++ after⟩ s →
        exec (.mixSet tag (before ++ [sink, source, low, high] ++ after)) s = .next (replied 0x91 tag [4] s))

/-- MIX_COMMIT copies the shadow bank at once in IDLE and OPENING, with COMMIT_DONE AT_ONCE, and else leaves the commit
pending; MIX_GET answers with the named bank's gains and mutes, the pending flag, and each sink's clamp report and count (the
places of the mutes and of the last two by log entry 18), and changes nothing; SINK_SET writes the sink's clamp report (R124,
R126, R134). -/
def Obligations.CommitGetAndSinkSet : Prop :=
  ∀ (tag x y : Byte) (s : State),
    (takeable ⟨0x12, tag, []⟩ s →
      ((s.call.state = .idle ∨ s.call.state = .opening) →
        exec (.mixCommit tag []) s
          = .next (replied 0x92 tag [0]
            (raise Source.commitDone 1 0 { s with mix := { s.mix with active := s.mix.shadow, commitPending := false } })))
      ∧ (s.call.state ≠ .idle → s.call.state ≠ .opening →
        exec (.mixCommit tag []) s = .next (replied 0x92 tag [0] { s with mix := { s.mix with commitPending := true } })))
    ∧ (takeable ⟨0x13, tag, [x]⟩ s →
      (2 ≤ x.toNat → exec (.mixGet tag [x]) s = .next (replied 0x93 tag [4] s))
      ∧ (x.toNat < 2 → ∀ bank : Bank, bank = (if x = 0 then s.mix.active else s.mix.shadow) →
        exec (.mixGet tag [x]) s
          = .next (replied 0x93 tag
            (([0] : List Byte)
              ++ ([bank.up.v0, bank.up.v1, bank.up.down]
                ++ ([bank.ear[0], bank.ear[1], bank.ear[2], bank.ear[3]].flatMap fun r => [r.v0, r.v1, r.down, r.own])).flatMap
                  (fun g => [BitVec.ofNat 8 g, BitVec.ofNat 8 (g / 256)])
              ++ [BitVec.ofBool bank.mutes[4] ++ BitVec.ofBool bank.mutes[3] ++ BitVec.ofBool bank.mutes[2]
                    ++ BitVec.ofBool bank.mutes[1] ++ BitVec.ofBool bank.mutes[0] |>.zeroExtend 8,
                  if s.mix.commitPending then 1 else 0]
              ++ (List.finRange 5).flatMap fun j =>
                [if s.mix.clampReport[j] then 1 else 0, BitVec.ofNat 8 s.mix.clampCount[j],
                  BitVec.ofNat 8 (s.mix.clampCount[j] / 256), BitVec.ofNat 8 (s.mix.clampCount[j] / 65536),
                  BitVec.ofNat 8 (s.mix.clampCount[j] / 16777216)]) s)))
    ∧ (takeable ⟨0x16, tag, [x, y]⟩ s →
      ((5 ≤ x.toNat ∨ 2 ≤ y.toNat) → exec (.sinkSet tag [x, y]) s = .next (replied 0x96 tag [4] s))
      ∧ (∀ (j : SinkId) (on : Bool), x = BitVec.ofNat 8 j.val → y = (if on then 1 else 0) →
        exec (.sinkSet tag [x, y]) s
          = .next (replied 0x96 tag [0] { s with mix := { s.mix with clampReport := s.mix.clampReport.set j on } })))

/-- A sink's block. With the mute off, sample i is the sum over the sources present of sample times gain, divided by 4,096
with round half up and clamped; each sample the clamp changed counts, and SINK_CLAMP is raised once if the report is on. With
the mute on it is N zeros with no clamps. UP is zeros while the call is HELD, or LOST out of HELD. The sources of UP are V0, V1 and
DOWN, those of an earbud sink these and its stream's output, each with its gain of the bank, and an absent one adds nothing (R127,
R128, R130, R131, R133). -/
def Obligations.SinksAreMixed : Prop :=
  ∀ (n : Nat) (j : SinkId) (terms : List Term) (s : State) (sums : List (List Sample × Nat)),
    sums = terms.map (fun t => (t.samples, t.gain)) →
      (s.mix.active.mutes[j] = true →
        sinkBlock n j terms s = List.replicate n 0 ∧ accountClamps n j terms s = s)
      ∧ (s.mix.active.mutes[j] = false →
        (sinkBlock n j terms s).length = n
        ∧ (∀ i : Nat, i < n →
          ((sinkBlock n j terms s).getD i 0).toInt = max (-32768) (min 32767 ((gainedSum sums i + 2048) / 4096)))
        ∧ ∀ clamped : Nat,
          clamped = ((List.range n).filter fun i => (gainedSum sums i + 2048) / 4096 < -32768
            ∨ 32767 < (gainedSum sums i + 2048) / 4096).length →
            ∃ u : State,
              u = { s with mix := { s.mix with clampCount := s.mix.clampCount.set j (min max32 (s.mix.clampCount[j] + clamped)) } }
              ∧ (clamped = 0 → accountClamps n j terms s = s)
              ∧ (clamped ≠ 0 → accountClamps n j terms s
                = if s.mix.clampReport[j] then raiseAt Source.sinkClamp 1 j u else u))
      ∧ ∀ src : Sources,
        ((s.call.state = .held ∨ (s.call.state = .lost ∧ s.call.resumeTo = .held)) →
          upBlock n src s = List.replicate n 0)
        ∧ (s.call.state ≠ .held → (s.call.state = .lost → s.call.resumeTo = .live) →
          upBlock n src s = sinkBlock n 0 (upTerms src s.mix.active) s)
        ∧ ∀ (k : SlotId) (bank : Bank),
          (upTerms src bank).map (fun t => (t.samples, t.gain))
              = [(src.v0, bank.up.v0), (src.v1, bank.up.v1), (some src.down, bank.up.down)].filterMap
                (fun x => x.1.map fun samples => (samples, x.2))
            ∧ (earTerms src k bank).map (fun t => (t.samples, t.gain))
              = [(src.v0, bank.ear[k].v0), (src.v1, bank.ear[k].v1), (some src.down, bank.ear[k].down),
                  (src.outputs[k], bank.ear[k].own)].filterMap (fun x => x.1.map fun samples => (samples, x.2))

/-! ### Voices and watches -/

/-- A voice in a block. With no member present it forms nothing and stands; MONO gives its member; BOTH the mean of two
samples with round half up, LEFT and RIGHT their side, and with one member present that one; in these the winner is absent.
BEST gives the elected winner's samples: one present member wins at once (ABSENCE when the other was winner), the left is
first winner, and a winner loses on quality by H or more once the hold time has run (R142, R143). -/
def Obligations.VoicesAreFormed : Prop :=
  ∀ (queues : Vector RxQueue 4) (outputs : StreamOutputs) (v : Voice) (setId : Byte),
    ((v.boundTo = none ∨ (v.boundTo = some .mono ∧ ∀ k, v.mono = some k → outputs[k] = none)
        ∨ (v.boundTo = some (.numbered setId) ∧ ∀ k, v.left = some k ∨ v.right = some k → outputs[k] = none)) →
      formVoice queues outputs v = ⟨v, none, none⟩)
    ∧ (∀ (k : SlotId) (x : List Sample), v.boundTo = some .mono → v.mono = some k → outputs[k] = some x →
      formVoice queues outputs v = ⟨{ v with winner := none, sinceSwitch := 0 }, some x, none⟩)
    ∧ (v.boundTo = some (.numbered setId) →
      (∀ (k : SlotId) (x : List Sample), outputs[k] = some x →
        ((v.left = some k ∧ ∀ r, v.right = some r → outputs[r] = none)
          ∨ (v.right = some k ∧ ∀ l, v.left = some l → outputs[l] = none)) →
          (v.mode ≠ .best → formVoice queues outputs v = ⟨{ v with winner := none, sinceSwitch := 0 }, some x, none⟩)
          ∧ (v.mode = .best →
            (v.winner = none → formVoice queues outputs v = ⟨{ v with winner := some k, sinceSwitch := 0 }, some x, none⟩)
            ∧ (v.winner = some k →
              formVoice queues outputs v = ⟨{ v with sinceSwitch := saturatingSucc 65535 v.sinceSwitch }, some x, none⟩)
            ∧ (∀ w, v.winner = some w → w ≠ k →
              formVoice queues outputs v = ⟨{ v with winner := some k, sinceSwitch := 0 }, some x, some 2⟩)))
      ∧ (∀ (l r : SlotId) (a b : List Sample), v.left = some l → v.right = some r → outputs[l] = some a → outputs[r] = some b →
        (v.mode = .left → formVoice queues outputs v = ⟨{ v with winner := none, sinceSwitch := 0 }, some a, none⟩)
        ∧ (v.mode = .right → formVoice queues outputs v = ⟨{ v with winner := none, sinceSwitch := 0 }, some b, none⟩)
        ∧ (v.mode = .both → a.length = b.length →
          ∃ out : List Sample,
            formVoice queues outputs v = ⟨{ v with winner := none, sinceSwitch := 0 }, some out, none⟩
            ∧ out.length = a.length
            ∧ ∀ i : Nat, i < a.length → (out.getD i 0).toInt = ((a.getD i 0).toInt + (b.getD i 0).toInt + 1) / 2)
        ∧ (v.mode = .best →
          (v.winner = none → formVoice queues outputs v = ⟨{ v with winner := some l, sinceSwitch := 0 }, some a, none⟩)
          ∧ (∀ (winner other : SlotId) (xWinner xOther : List Sample) (qWinner qOther since : Nat),
            v.winner = some winner → l ≠ r →
            (winner, other, xWinner, xOther) = (l, r, a, b) ∨ (winner, other, xWinner, xOther) = (r, l, b, a) →
            qWinner = queues[winner].quality.count .concealed → qOther = queues[other].quality.count .concealed →
            since = saturatingSucc 65535 v.sinceSwitch →
              formVoice queues outputs v
                = if qOther + v.hysteresis ≤ qWinner ∧ v.holdTime ≤ since
                  then ⟨{ v with winner := some other, sinceSwitch := 0 }, some xOther, some 1⟩
                  else ⟨{ v with sinceSwitch := since }, some xWinner, none⟩))))

/-- VOICE_SET writes mode, hysteresis clamped to 1..8 and hold time clamped to 1..64, and leaves members and winner;
WATCH_SET writes kind, level clamped to 32,767 and count clamped to 1..255, and clears FIRED and the run; both with
OK_CLAMPED when a clamp acted, and BAD_ARG for a number or a choice outside its list (R141, R150). That a change into BEST keeps a
winner the record still holds is the model's reading (log entry 38). -/
def Obligations.VoiceAndWatchSet : Prop :=
  ∀ (tag x y low high count : Byte) (s : State),
    (takeable ⟨0x14, tag, [x, y, low, high]⟩ s →
      ((2 ≤ x.toNat ∨ 4 ≤ y.toNat) → exec (.voiceSet tag [x, y, low, high]) s = .next (replied 0x94 tag [4] s))
      ∧ (∀ (i : VoiceId) (mode : VoiceMode), x = BitVec.ofNat 8 i.val →
        y = (match mode with
          | .both => 0
          | .best => 1
          | .left => 2
          | .right => 3) →
        exec (.voiceSet tag [x, y, low, high]) s
          = .next (replied 0x94 tag
            [if 1 ≤ low.toNat ∧ low.toNat ≤ 8 ∧ 1 ≤ high.toNat ∧ high.toNat ≤ 64 then 0 else 1]
            { s with
              voices := s.voices.set i
                { s.voices[i] with
                  mode := mode, hysteresis := max 1 (min 8 low.toNat), holdTime := max 1 (min 64 high.toNat) } })))
    ∧ (takeable ⟨0x15, tag, [x, y, low, high, count]⟩ s →
      ((5 ≤ x.toNat ∨ 3 ≤ y.toNat) → exec (.watchSet tag [x, y, low, high, count]) s = .next (replied 0x95 tag [4] s))
      ∧ (∀ (j : SinkId) (kind : WatchKind), x = BitVec.ofNat 8 j.val →
        y = (match kind with
          | .off => 0
          | .peakOver => 1
          | .quiet => 2) →
        exec (.watchSet tag [x, y, low, high, count]) s
          = .next (replied 0x95 tag
            [if low.toNat + 256 * high.toNat ≤ 32767 ∧ 1 ≤ count.toNat then 0 else 1]
            { s with
              watches := s.watches.set j
                ⟨kind, min 32767 (low.toNat + 256 * high.toNat), max 1 count.toNat, 0, false⟩ })))

/-- A block handed to a watch: a watch that is OFF or FIRED is not evaluated; else its run advances while the peak meets the
condition, and becomes 0 when it does not; a run that reaches the count fires the watch, with WATCH (R147, R148). -/
def Obligations.WatchesFire : Prop :=
  ∀ (j : SinkId) (block : List Sample) (s : State) (w : Watch) (peak : Nat),
    w = s.watches[j] → peak = (block.map fun x => x.toInt.natAbs).foldl max 0 → 1 ≤ w.count →
      ((w.kind = .off ∨ w.fired = true) → handToWatch j block s = s)
      ∧ (w.fired = false →
        ((w.kind = .peakOver ∧ peak < w.level) ∨ (w.kind = .quiet ∧ w.level ≤ peak) →
          handToWatch j block s = { s with watches := s.watches.set j { w with run := 0 } })
        ∧ ((w.kind = .peakOver ∧ w.level ≤ peak) ∨ (w.kind = .quiet ∧ peak < w.level) →
          (w.run + 1 ≠ w.count →
            handToWatch j block s = { s with watches := s.watches.set j { w with run := w.run + 1 } })
          ∧ (w.run + 1 = w.count →
            handToWatch j block s
              = raiseAt Source.watch (if w.kind = .peakOver then 1 else 2) j
                { s with watches := s.watches.set j { w with run := w.count, fired := true } })))

/-! ### Notices -/

/-- An occurrence asserts its source, counts up to 255, adds its index, writes the latest code and value, and changes no
other record; NOTICE_ROUTE moves a source that no outstanding report lists, and NOTICE_MASK writes the two settings of a
class; each settles the attention line (R160, R162, R163, R168). -/
def Obligations.OccurrencesRoutesAndMasks : Prop :=
  (∀ (src : SourceId) (index : Option (Fin 5)) (code : Byte) (value : Count32) (n m : Notices),
    m = n.occur src (index.map Fin.val) code value →
      m.records[src] = ⟨true, saturatingSucc 255 n.records[src].occurrences,
        (match index with
          | some k => n.records[src].indexSet ||| (1#8 <<< k.val)
          | none => n.records[src].indexSet), code, value⟩
      ∧ (∀ other : SourceId, other ≠ src → m.records[other] = n.records[other])
      ∧ m.route = n.route ∧ m.classes = n.classes ∧ m.outstanding = n.outstanding
      ∧ (m.atn = true ↔ attentionDue m.records m.route m.classes))
  ∧ ∀ (tag x y z : Byte) (s : State),
    (takeable ⟨0x18, tag, [x, y]⟩ s →
      ((15 ≤ x.toNat ∨ 4 ≤ y.toNat) → exec (.noticeRoute tag [x, y]) s = .next (replied 0x98 tag [4] s))
      ∧ (∀ (src : SourceId) (cls : ClassId), x = BitVec.ofNat 8 src.val → y = BitVec.ofNat 8 cls.val →
        ((∃ (c : ClassId) (report : List Listed), s.notices.outstanding[c] = some report ∧ ∃ l ∈ report, l.source = src) →
          exec (.noticeRoute tag [x, y]) s = .next (replied 0x98 tag [2] s))
        ∧ ((∀ (c : ClassId) (report : List Listed), s.notices.outstanding[c] = some report → ∀ l ∈ report, l.source ≠ src) →
          ∃ atn : Bool, (atn = true ↔ attentionDue s.notices.records (s.notices.route.set src cls) s.notices.classes)
            ∧ exec (.noticeRoute tag [x, y]) s
              = .next (replied 0x98 tag [0]
                { s with notices := { s.notices with route := s.notices.route.set src cls, atn := atn } }))))
    ∧ (takeable ⟨0x19, tag, [x, y, z]⟩ s →
      ((4 ≤ x.toNat ∨ 2 ≤ y.toNat ∨ 2 ≤ z.toNat) → exec (.noticeMask tag [x, y, z]) s = .next (replied 0x99 tag [4] s))
      ∧ (∀ (cls : ClassId) (report wake : Bool),
        x = BitVec.ofNat 8 cls.val → y = (if report then 1 else 0) → z = (if wake then 1 else 0) →
          ∃ atn : Bool,
            (atn = true ↔ attentionDue s.notices.records s.notices.route (s.notices.classes.set cls ⟨report, wake⟩))
            ∧ exec (.noticeMask tag [x, y, z]) s
              = .next (replied 0x99 tag [0]
                { s with notices := { s.notices with classes := s.notices.classes.set cls ⟨report, wake⟩, atn := atn } })))

/-- NOTICE_POLL: BAD_STATE for a class with an outstanding report; else OK with the report of the class, which becomes
outstanding, or an empty report that changes nothing (R164, R165, R177). -/
def Obligations.PollMakesReport : Prop :=
  ∀ (tag x : Byte) (s : State), takeable ⟨0x1C, tag, [x]⟩ s →
    (4 ≤ x.toNat → exec (.noticePoll tag [x]) s = .next (replied 0x9C tag [4] s))
    ∧ (∀ cls : ClassId, x = BitVec.ofNat 8 cls.val →
      (s.notices.outstanding[cls] ≠ none → exec (.noticePoll tag [x]) s = .next (replied 0x9C tag [3] s))
      ∧ (s.notices.outstanding[cls] = none →
        (reportedSources cls s.notices = [] →
          exec (.noticePoll tag [x]) s = .next (replied 0x9C tag [0, x, 0] s))
        ∧ (reportedSources cls s.notices ≠ [] →
          ∃ m : Notices, reportMade cls s.notices m
            ∧ exec (.noticePoll tag [x]) s
              = .next (replied 0x9C tag (0 :: reportBytes cls s.notices) { s with notices := m }))))

/-- NOTICE_ACK: BAD_STATE for a class with no outstanding report; else the report ends, each source it listed is cleared unless
it has had an occurrence since, a watch whose sink it told of is re-armed unless it fired again since, and the attention line is
settled (R149, R166, R168). That the watch is re-armed also where a WATCH_SET has cleared its FIRED since is the model's reading (log
entry 20). -/
def Obligations.AckEndsReport : Prop :=
  ∀ (tag x : Byte) (s : State), takeable ⟨0x1A, tag, [x]⟩ s →
    (4 ≤ x.toNat → exec (.noticeAck tag [x]) s = .next (replied 0x9A tag [4] s))
    ∧ (∀ cls : ClassId, x = BitVec.ofNat 8 cls.val →
      (s.notices.outstanding[cls] = none → exec (.noticeAck tag [x]) s = .next (replied 0x9A tag [3] s))
      ∧ (∀ report : List Listed, s.notices.outstanding[cls] = some report →
        (∀ l ∈ report, ∀ l' ∈ report, l.source = l'.source → l = l') →
        ∃ (m : Notices) (watches : Vector Watch 5),
          exec (.noticeAck tag [x]) s = .next (replied 0x9A tag [0] { s with notices := m, watches := watches })
          ∧ (∀ src : SourceId, m.records[src]
            = if (∃ l ∈ report, l.source = src) ∧ s.notices.records[src].occurrences = 0
              then { s.notices.records[src] with asserted := false } else s.notices.records[src])
          ∧ m.outstanding = s.notices.outstanding.set cls none
          ∧ m.route = s.notices.route ∧ m.classes = s.notices.classes
          ∧ (m.atn = true ↔ attentionDue m.records m.route m.classes)
          ∧ ∀ j : SinkId, watches[j]
            = if (∃ l ∈ report, l.source = Source.watch ∧ l.indexSet.getLsbD j.val = true)
                ∧ s.notices.records[Source.watch].indexSet.getLsbD j.val = false
              then { s.watches[j] with fired := false, run := 0 } else s.watches[j]))

/-! ### The Control Port -/

/-- From bytes to a request, whole: the bytes of any message's frame, arriving in an empty input buffer, become that request at
the end of the request queue and leave nothing in the buffer; with the request queue full, or after a RESET_SOFT, the frame
waits whole; FRAME_TO_REQUEST then admits the oldest frame once a place is free (R171, R172, R174, R176; log entry 21). CRDY
after the last byte is the model's reading (log entry 23), and that FRAME_TO_REQUEST with no frame waiting changes nothing is its
choice (log entry 5). -/
def Obligations.FramesBecomeRequests : Prop :=
  ∀ (m : Message) (s : State), m.body.length ≤ 256 →
    (s.control.openFrame = [] → s.control.goodFrames = [] →
      ((s.control.requests.length < 4 ∧ s.control.softReset = .notAsked) →
        receives m.frame s
          { s with
            control := { s.control with
              requests := s.control.requests ++ [m], ready := true, lastByteTime := s.air.timeBase } })
      ∧ (¬(s.control.requests.length < 4 ∧ s.control.softReset = .notAsked) →
        receives m.frame s
          { s with
            control := { s.control with goodFrames := [m.frame], ready := true, lastByteTime := s.air.timeBase } }))
    ∧ (∀ rest : List (List Byte), s.control.goodFrames = m.frame :: rest →
      (s.control.requests.length < 4 → s.control.softReset = .notAsked →
        exec .frameToRequest s
          = .next { s with
            control := { s.control with
              goodFrames := rest, requests := s.control.requests ++ [m],
              ready := readyAt (heldBytes rest s.control.openFrame) s.control.ready } })
      ∧ (¬(s.control.requests.length < 4 ∧ s.control.softReset = .notAsked) → exec .frameToRequest s = .next s))
    ∧ (s.control.goodFrames = [] → exec .frameToRequest s = .next s)

/-- The receiver byte by byte: hunting, any byte but Sync is dropped, and Sync begins a frame; inside a frame a byte is stored,
and the frame is discarded with its fault when the second Length byte makes a length outside 2..258, when the Check byte makes a
wrong sum, when a byte arrives with 1,024 held, and when 80,000 ticks pass without one (R170, R172). The ticks before a byte are
the model's operand (log entry 2), and that a timeout not due lets only time pass is its choice (log entry 5). -/
def Obligations.ReceiverFollowsFrames : Prop :=
  ∀ (elapsed : Tick) (b : Byte) (s : State) (partly : List Byte), s.control.openFrame = partly →
    (partly = [] → b ≠ 0xC3 → exec (.controlPortByte elapsed b) s = .next (later elapsed s))
    ∧ ((partly ≠ [] ∨ b = 0xC3) → 1024 ≤ heldBytes s.control.goodFrames partly →
      exec (.controlPortByte elapsed b) s = .next (frameDiscarded 4 (later elapsed s)))
    ∧ (heldBytes s.control.goodFrames partly < 1024 →
      ∀ stored : State,
        stored = { later elapsed s with
          control := { s.control with
            openFrame := partly ++ [b], lastByteTime := s.air.timeBase + elapsed,
            ready := readyAt (heldBytes s.control.goodFrames (partly ++ [b])) s.control.ready } } →
          ((partly = [] ∧ b = 0xC3) ∨ partly.length = 1 →
            exec (.controlPortByte elapsed b) s = .next stored)
          ∧ (∀ (sync low : Byte), partly = [sync, low] →
            (low.toNat + 256 * b.toNat < 2 ∨ 258 < low.toNat + 256 * b.toNat) →
              exec (.controlPortByte elapsed b) s = .next (frameDiscarded 2 stored))
          ∧ (∀ (sync low high : Byte) (rest : List Byte), partly ++ [b] = sync :: low :: high :: rest →
            2 ≤ low.toNat + 256 * high.toNat → low.toNat + 256 * high.toNat ≤ 258 →
              (rest.length < low.toNat + 256 * high.toNat + 1 →
                exec (.controlPortByte elapsed b) s = .next stored)
              ∧ (low.toNat + 256 * high.toNat + 1 ≤ rest.length → ((low :: high :: rest).map BitVec.toNat).sum % 256 ≠ 0 →
                exec (.controlPortByte elapsed b) s = .next (frameDiscarded 1 stored))
              ∧ (low.toNat + 256 * high.toNat + 1 ≤ rest.length → ((low :: high :: rest).map BitVec.toNat).sum % 256 = 0 →
                ∃ t, exec (.controlPortByte elapsed b) s = .next t
                  ∧ t = { later elapsed s with control := t.control }
                  ∧ t.control.openFrame = [] ∧ t.control.faultCount = s.control.faultCount)))
    ∧ ((partly ≠ [] → 80000 ≤ (s.air.timeBase + elapsed - s.control.lastByteTime).toNat →
        exec (.byteTimeout elapsed) s = .next (frameDiscarded 3 (later elapsed s)))
      ∧ ((partly = [] ∨ (s.air.timeBase + elapsed - s.control.lastByteTime).toNat < 80000) →
        exec (.byteTimeout elapsed) s = .next (later elapsed s)))

/-- The transmitter: nothing starts while HRDY is inactive or a frame is in flight; else the start frame while owed, the oldest
reply, or the report of the lowest-numbered class that is report enabled, has an asserted source and no outstanding report. When
a frame has been sent the transmitter is idle, a sent reply leaves the queue, and the last reply after a RESET_SOFT makes the
reset due (R164, R175, R176). HRDY is an operand (log entry 15), and that TRANSMIT_DONE with nothing in flight changes nothing is
the model's choice (log entry 5). -/
def Obligations.TransmitterChoosesInOrder : Prop :=
  ∀ (ready : Bool) (s : State),
    ((ready = false ∨ s.control.sending ≠ none ∨ s.control.softReset = .due) →
      exec (.transmitStart ready) s = .next s)
    ∧ (s.control.sending = none → s.control.softReset ≠ .due →
      (s.control.startOwed = true →
        exec (.transmitStart true) s
          = .next { s with
            control := { s.control with
              startOwed := false
              sending := some ⟨.start, [0xC3, 12, 0, 0x41, 0, 0x45, 0x57, 0x34, 0x34, 1, 8, 4, 8, 2, 15, 0x89]⟩ } })
      ∧ (s.control.startOwed = false →
        (∀ (m : Message) (rest : List Message), s.control.replies = m :: rest →
          exec (.transmitStart true) s = .next { s with control := { s.control with sending := some ⟨.reply, m.frame⟩ } })
        ∧ (s.control.replies = [] →
          ∀ eligibleClass : ClassId → Prop,
            (∀ cls : ClassId, eligibleClass cls ↔ (s.notices.classes[cls].reportEnabled = true
              ∧ reportedSources cls s.notices ≠ [] ∧ s.notices.outstanding[cls] = none)) →
              ((∀ cls : ClassId, ¬eligibleClass cls) → exec (.transmitStart true) s = .next s)
              ∧ (∀ cls : ClassId, eligibleClass cls → (∀ lower : ClassId, lower < cls → ¬eligibleClass lower) →
                ∃ m : Notices, reportMade cls s.notices m
                  ∧ exec (.transmitStart true) s
                    = .next { s with
                      notices := m
                      control := { s.control with
                        sending := some ⟨.report, (⟨0x40, 0, reportBytes cls s.notices⟩ : Message).frame⟩ } }))))
    ∧ (∀ x : Sending, s.control.sending = some x →
      (x.what ≠ .reply → exec .transmitDone s = .next { s with control := { s.control with sending := none } })
      ∧ (x.what = .reply →
        exec .transmitDone s
          = .next { s with
            control := { s.control with
              sending := none, replies := s.control.replies.tail
              softReset := if s.control.softReset = .replyOwed ∧ s.control.replies.length ≤ 1 then .due
                else s.control.softReset } }))
    ∧ (s.control.sending = none → exec .transmitDone s = .next s)

/-! ### The laws every command keeps -/

/-- The state after reset keeps every law of the part. -/
def Obligations.ResetKeepsEveryLaw : Prop :=
  idleLaw State.reset ∧ rosterLaw State.reset ∧ reservationLaw State.reset ∧ membershipLaw State.reset
    ∧ candidateLaw State.reset ∧ storeLaw State.reset ∧ queueLaw State.reset ∧ conservationLaw State.reset
    ∧ qualityLaw State.reset ∧ baseStepLaw State.reset ∧ gainLaw State.reset ∧ voiceLaw State.reset
    ∧ watchLaw State.reset ∧ gatheringLaw State.reset ∧ attentionLaw State.reset ∧ reportLaw State.reset
    ∧ flowLaw State.reset ∧ portQueuesLaw State.reset

/-- Every step keeps the laws of the lines and queues of the host's side: ATN follows its condition, every source that an
outstanding report lists stays in its class and asserted, CRDY follows the buffer, which holds at most 1,024 bytes, and no
queue holds more than four (R162, R164, R168, R170, R174). -/
def Obligations.StepsKeepHostLaws : Prop :=
  ∀ s t : State, step s = .next t →
    (attentionLaw s → attentionLaw t)
    ∧ (reportLaw s → reportLaw t)
    ∧ (flowLaw s → flowLaw t)
    ∧ (portQueuesLaw s → portQueuesLaw t)

/-- Every step keeps the laws of the audio path: gains at most 16,384, base steps within their class limit, watches within
their ranges, sixteen outcomes in each quality window, two blocks at most in each store, and in SYNCED one word gathered for
each word place of the block (R74, R75, R99, R106, R121, R147, R155). -/
def Obligations.StepsKeepAudioLaws : Prop :=
  ∀ s t : State, step s = .next t →
    (gainLaw s → gainLaw t)
    ∧ (baseStepLaw s → baseStepLaw t)
    ∧ (watchLaw s → watchLaw t)
    ∧ (qualityLaw s → qualityLaw t)
    ∧ (storeLaw s → storeLaw t)
    ∧ (gatheringLaw s → gatheringLaw t)

/-- Every step keeps the laws of the earbuds: no shared address or place in the roster, one RESERVED entry exactly while
pairing, one slot for each IN_CALL entry (while the reservation's law holds), no slot in use outside a call, at most four
candidates of different addresses (R3, R21, R36, R50, R59). -/
def Obligations.StepsKeepEarbudLaws : Prop :=
  ∀ s t : State, step s = .next t →
    (rosterLaw s → rosterLaw t)
    ∧ (reservationLaw s → reservationLaw t)
    ∧ (reservationLaw s → membershipLaw s → membershipLaw t)
    ∧ (idleLaw s → idleLaw t)
    ∧ (candidateLaw s → candidateLaw t)

/-- Every step keeps the laws of the streams: each queue holds at most eight entries of rising sequence, every accepted
arrival is accounted for, and every member of a voice streams, fits its set and is in one voice only (R94, R95, R139, R140). -/
def Obligations.StepsKeepStreamLaws : Prop :=
  ∀ s t : State, step s = .next t →
    (queueLaw s → queueLaw t)
    ∧ (conservationLaw s → conservationLaw t)
    ∧ (voiceLaw s → voiceLaw t)
end

