-- ==== Sys2Proof/Laws/State.lean ====
section
/-! SUPPORT. One lemma per field per named update of the state, so that no later proof unfolds a record update. -/

namespace Sys2Proof.Machine

open Sys2Proof

/-! `State.setSlot` changes `slots`. -/

@[simp] theorem State.setSlot_call (k : SlotId) (x : StreamSlot) (s : State) : (s.setSlot k x).call = s.call := rfl
@[simp] theorem State.setSlot_roster (k : SlotId) (x : StreamSlot) (s : State) : (s.setSlot k x).roster = s.roster := rfl
@[simp] theorem State.setSlot_pair (k : SlotId) (x : StreamSlot) (s : State) : (s.setSlot k x).pair = s.pair := rfl
@[simp] theorem State.setSlot_keyUnit (k : SlotId) (x : StreamSlot) (s : State) : (s.setSlot k x).keyUnit = s.keyUnit := rfl
@[simp] theorem State.setSlot_air (k : SlotId) (x : StreamSlot) (s : State) : (s.setSlot k x).air = s.air := rfl
@[simp] theorem State.setSlot_slots (k : SlotId) (x : StreamSlot) (s : State) : (s.setSlot k x).slots = s.slots.set k x := rfl
@[simp] theorem State.setSlot_stores (k : SlotId) (x : StreamSlot) (s : State) : (s.setSlot k x).stores = s.stores := rfl
@[simp] theorem State.setSlot_queues (k : SlotId) (x : StreamSlot) (s : State) : (s.setSlot k x).queues = s.queues := rfl
@[simp] theorem State.setSlot_convs (k : SlotId) (x : StreamSlot) (s : State) : (s.setSlot k x).convs = s.convs := rfl
@[simp] theorem State.setSlot_mix (k : SlotId) (x : StreamSlot) (s : State) : (s.setSlot k x).mix = s.mix := rfl
@[simp] theorem State.setSlot_voices (k : SlotId) (x : StreamSlot) (s : State) : (s.setSlot k x).voices = s.voices := rfl
@[simp] theorem State.setSlot_watches (k : SlotId) (x : StreamSlot) (s : State) : (s.setSlot k x).watches = s.watches := rfl
@[simp] theorem State.setSlot_port (k : SlotId) (x : StreamSlot) (s : State) : (s.setSlot k x).port = s.port := rfl
@[simp] theorem State.setSlot_notices (k : SlotId) (x : StreamSlot) (s : State) : (s.setSlot k x).notices = s.notices := rfl
@[simp] theorem State.setSlot_control (k : SlotId) (x : StreamSlot) (s : State) : (s.setSlot k x).control = s.control := rfl
@[simp] theorem State.setSlot_draws (k : SlotId) (x : StreamSlot) (s : State) : (s.setSlot k x).draws = s.draws := rfl
@[simp] theorem State.setSlot_pending (k : SlotId) (x : StreamSlot) (s : State) : (s.setSlot k x).pending = s.pending := rfl

/-! `State.setStore` changes `stores`. -/

@[simp] theorem State.setStore_call (k : SlotId) (x : List Block) (s : State) : (s.setStore k x).call = s.call := rfl
@[simp] theorem State.setStore_roster (k : SlotId) (x : List Block) (s : State) : (s.setStore k x).roster = s.roster := rfl
@[simp] theorem State.setStore_pair (k : SlotId) (x : List Block) (s : State) : (s.setStore k x).pair = s.pair := rfl
@[simp] theorem State.setStore_keyUnit (k : SlotId) (x : List Block) (s : State) : (s.setStore k x).keyUnit = s.keyUnit := rfl
@[simp] theorem State.setStore_air (k : SlotId) (x : List Block) (s : State) : (s.setStore k x).air = s.air := rfl
@[simp] theorem State.setStore_slots (k : SlotId) (x : List Block) (s : State) : (s.setStore k x).slots = s.slots := rfl
@[simp] theorem State.setStore_stores (k : SlotId) (x : List Block) (s : State) : (s.setStore k x).stores = s.stores.set k x := rfl
@[simp] theorem State.setStore_queues (k : SlotId) (x : List Block) (s : State) : (s.setStore k x).queues = s.queues := rfl
@[simp] theorem State.setStore_convs (k : SlotId) (x : List Block) (s : State) : (s.setStore k x).convs = s.convs := rfl
@[simp] theorem State.setStore_mix (k : SlotId) (x : List Block) (s : State) : (s.setStore k x).mix = s.mix := rfl
@[simp] theorem State.setStore_voices (k : SlotId) (x : List Block) (s : State) : (s.setStore k x).voices = s.voices := rfl
@[simp] theorem State.setStore_watches (k : SlotId) (x : List Block) (s : State) : (s.setStore k x).watches = s.watches := rfl
@[simp] theorem State.setStore_port (k : SlotId) (x : List Block) (s : State) : (s.setStore k x).port = s.port := rfl
@[simp] theorem State.setStore_notices (k : SlotId) (x : List Block) (s : State) : (s.setStore k x).notices = s.notices := rfl
@[simp] theorem State.setStore_control (k : SlotId) (x : List Block) (s : State) : (s.setStore k x).control = s.control := rfl
@[simp] theorem State.setStore_draws (k : SlotId) (x : List Block) (s : State) : (s.setStore k x).draws = s.draws := rfl
@[simp] theorem State.setStore_pending (k : SlotId) (x : List Block) (s : State) : (s.setStore k x).pending = s.pending := rfl

/-! `State.setQueue` changes `queues`. -/

@[simp] theorem State.setQueue_call (k : SlotId) (x : RxQueue) (s : State) : (s.setQueue k x).call = s.call := rfl
@[simp] theorem State.setQueue_roster (k : SlotId) (x : RxQueue) (s : State) : (s.setQueue k x).roster = s.roster := rfl
@[simp] theorem State.setQueue_pair (k : SlotId) (x : RxQueue) (s : State) : (s.setQueue k x).pair = s.pair := rfl
@[simp] theorem State.setQueue_keyUnit (k : SlotId) (x : RxQueue) (s : State) : (s.setQueue k x).keyUnit = s.keyUnit := rfl
@[simp] theorem State.setQueue_air (k : SlotId) (x : RxQueue) (s : State) : (s.setQueue k x).air = s.air := rfl
@[simp] theorem State.setQueue_slots (k : SlotId) (x : RxQueue) (s : State) : (s.setQueue k x).slots = s.slots := rfl
@[simp] theorem State.setQueue_stores (k : SlotId) (x : RxQueue) (s : State) : (s.setQueue k x).stores = s.stores := rfl
@[simp] theorem State.setQueue_queues (k : SlotId) (x : RxQueue) (s : State) : (s.setQueue k x).queues = s.queues.set k x := rfl
@[simp] theorem State.setQueue_convs (k : SlotId) (x : RxQueue) (s : State) : (s.setQueue k x).convs = s.convs := rfl
@[simp] theorem State.setQueue_mix (k : SlotId) (x : RxQueue) (s : State) : (s.setQueue k x).mix = s.mix := rfl
@[simp] theorem State.setQueue_voices (k : SlotId) (x : RxQueue) (s : State) : (s.setQueue k x).voices = s.voices := rfl
@[simp] theorem State.setQueue_watches (k : SlotId) (x : RxQueue) (s : State) : (s.setQueue k x).watches = s.watches := rfl
@[simp] theorem State.setQueue_port (k : SlotId) (x : RxQueue) (s : State) : (s.setQueue k x).port = s.port := rfl
@[simp] theorem State.setQueue_notices (k : SlotId) (x : RxQueue) (s : State) : (s.setQueue k x).notices = s.notices := rfl
@[simp] theorem State.setQueue_control (k : SlotId) (x : RxQueue) (s : State) : (s.setQueue k x).control = s.control := rfl
@[simp] theorem State.setQueue_draws (k : SlotId) (x : RxQueue) (s : State) : (s.setQueue k x).draws = s.draws := rfl
@[simp] theorem State.setQueue_pending (k : SlotId) (x : RxQueue) (s : State) : (s.setQueue k x).pending = s.pending := rfl

/-! `State.setConv` changes `convs`. -/

@[simp] theorem State.setConv_call (k : SlotId) (x : Converter) (s : State) : (s.setConv k x).call = s.call := rfl
@[simp] theorem State.setConv_roster (k : SlotId) (x : Converter) (s : State) : (s.setConv k x).roster = s.roster := rfl
@[simp] theorem State.setConv_pair (k : SlotId) (x : Converter) (s : State) : (s.setConv k x).pair = s.pair := rfl
@[simp] theorem State.setConv_keyUnit (k : SlotId) (x : Converter) (s : State) : (s.setConv k x).keyUnit = s.keyUnit := rfl
@[simp] theorem State.setConv_air (k : SlotId) (x : Converter) (s : State) : (s.setConv k x).air = s.air := rfl
@[simp] theorem State.setConv_slots (k : SlotId) (x : Converter) (s : State) : (s.setConv k x).slots = s.slots := rfl
@[simp] theorem State.setConv_stores (k : SlotId) (x : Converter) (s : State) : (s.setConv k x).stores = s.stores := rfl
@[simp] theorem State.setConv_queues (k : SlotId) (x : Converter) (s : State) : (s.setConv k x).queues = s.queues := rfl
@[simp] theorem State.setConv_convs (k : SlotId) (x : Converter) (s : State) : (s.setConv k x).convs = s.convs.set k x := rfl
@[simp] theorem State.setConv_mix (k : SlotId) (x : Converter) (s : State) : (s.setConv k x).mix = s.mix := rfl
@[simp] theorem State.setConv_voices (k : SlotId) (x : Converter) (s : State) : (s.setConv k x).voices = s.voices := rfl
@[simp] theorem State.setConv_watches (k : SlotId) (x : Converter) (s : State) : (s.setConv k x).watches = s.watches := rfl
@[simp] theorem State.setConv_port (k : SlotId) (x : Converter) (s : State) : (s.setConv k x).port = s.port := rfl
@[simp] theorem State.setConv_notices (k : SlotId) (x : Converter) (s : State) : (s.setConv k x).notices = s.notices := rfl
@[simp] theorem State.setConv_control (k : SlotId) (x : Converter) (s : State) : (s.setConv k x).control = s.control := rfl
@[simp] theorem State.setConv_draws (k : SlotId) (x : Converter) (s : State) : (s.setConv k x).draws = s.draws := rfl
@[simp] theorem State.setConv_pending (k : SlotId) (x : Converter) (s : State) : (s.setConv k x).pending = s.pending := rfl

/-! `State.setEntry` changes `roster`. -/

@[simp] theorem State.setEntry_call (i : EntryId) (x : RosterEntry) (s : State) : (s.setEntry i x).call = s.call := rfl
@[simp] theorem State.setEntry_roster (i : EntryId) (x : RosterEntry) (s : State) : (s.setEntry i x).roster = s.roster.set i x := rfl
@[simp] theorem State.setEntry_pair (i : EntryId) (x : RosterEntry) (s : State) : (s.setEntry i x).pair = s.pair := rfl
@[simp] theorem State.setEntry_keyUnit (i : EntryId) (x : RosterEntry) (s : State) : (s.setEntry i x).keyUnit = s.keyUnit := rfl
@[simp] theorem State.setEntry_air (i : EntryId) (x : RosterEntry) (s : State) : (s.setEntry i x).air = s.air := rfl
@[simp] theorem State.setEntry_slots (i : EntryId) (x : RosterEntry) (s : State) : (s.setEntry i x).slots = s.slots := rfl
@[simp] theorem State.setEntry_stores (i : EntryId) (x : RosterEntry) (s : State) : (s.setEntry i x).stores = s.stores := rfl
@[simp] theorem State.setEntry_queues (i : EntryId) (x : RosterEntry) (s : State) : (s.setEntry i x).queues = s.queues := rfl
@[simp] theorem State.setEntry_convs (i : EntryId) (x : RosterEntry) (s : State) : (s.setEntry i x).convs = s.convs := rfl
@[simp] theorem State.setEntry_mix (i : EntryId) (x : RosterEntry) (s : State) : (s.setEntry i x).mix = s.mix := rfl
@[simp] theorem State.setEntry_voices (i : EntryId) (x : RosterEntry) (s : State) : (s.setEntry i x).voices = s.voices := rfl
@[simp] theorem State.setEntry_watches (i : EntryId) (x : RosterEntry) (s : State) : (s.setEntry i x).watches = s.watches := rfl
@[simp] theorem State.setEntry_port (i : EntryId) (x : RosterEntry) (s : State) : (s.setEntry i x).port = s.port := rfl
@[simp] theorem State.setEntry_notices (i : EntryId) (x : RosterEntry) (s : State) : (s.setEntry i x).notices = s.notices := rfl
@[simp] theorem State.setEntry_control (i : EntryId) (x : RosterEntry) (s : State) : (s.setEntry i x).control = s.control := rfl
@[simp] theorem State.setEntry_draws (i : EntryId) (x : RosterEntry) (s : State) : (s.setEntry i x).draws = s.draws := rfl
@[simp] theorem State.setEntry_pending (i : EntryId) (x : RosterEntry) (s : State) : (s.setEntry i x).pending = s.pending := rfl

/-! `State.setVoice` changes `voices`. -/

@[simp] theorem State.setVoice_call (v : VoiceId) (x : Voice) (s : State) : (s.setVoice v x).call = s.call := rfl
@[simp] theorem State.setVoice_roster (v : VoiceId) (x : Voice) (s : State) : (s.setVoice v x).roster = s.roster := rfl
@[simp] theorem State.setVoice_pair (v : VoiceId) (x : Voice) (s : State) : (s.setVoice v x).pair = s.pair := rfl
@[simp] theorem State.setVoice_keyUnit (v : VoiceId) (x : Voice) (s : State) : (s.setVoice v x).keyUnit = s.keyUnit := rfl
@[simp] theorem State.setVoice_air (v : VoiceId) (x : Voice) (s : State) : (s.setVoice v x).air = s.air := rfl
@[simp] theorem State.setVoice_slots (v : VoiceId) (x : Voice) (s : State) : (s.setVoice v x).slots = s.slots := rfl
@[simp] theorem State.setVoice_stores (v : VoiceId) (x : Voice) (s : State) : (s.setVoice v x).stores = s.stores := rfl
@[simp] theorem State.setVoice_queues (v : VoiceId) (x : Voice) (s : State) : (s.setVoice v x).queues = s.queues := rfl
@[simp] theorem State.setVoice_convs (v : VoiceId) (x : Voice) (s : State) : (s.setVoice v x).convs = s.convs := rfl
@[simp] theorem State.setVoice_mix (v : VoiceId) (x : Voice) (s : State) : (s.setVoice v x).mix = s.mix := rfl
@[simp] theorem State.setVoice_voices (v : VoiceId) (x : Voice) (s : State) : (s.setVoice v x).voices = s.voices.set v x := rfl
@[simp] theorem State.setVoice_watches (v : VoiceId) (x : Voice) (s : State) : (s.setVoice v x).watches = s.watches := rfl
@[simp] theorem State.setVoice_port (v : VoiceId) (x : Voice) (s : State) : (s.setVoice v x).port = s.port := rfl
@[simp] theorem State.setVoice_notices (v : VoiceId) (x : Voice) (s : State) : (s.setVoice v x).notices = s.notices := rfl
@[simp] theorem State.setVoice_control (v : VoiceId) (x : Voice) (s : State) : (s.setVoice v x).control = s.control := rfl
@[simp] theorem State.setVoice_draws (v : VoiceId) (x : Voice) (s : State) : (s.setVoice v x).draws = s.draws := rfl
@[simp] theorem State.setVoice_pending (v : VoiceId) (x : Voice) (s : State) : (s.setVoice v x).pending = s.pending := rfl

/-! `State.setWatch` changes `watches`. -/

@[simp] theorem State.setWatch_call (j : SinkId) (x : Watch) (s : State) : (s.setWatch j x).call = s.call := rfl
@[simp] theorem State.setWatch_roster (j : SinkId) (x : Watch) (s : State) : (s.setWatch j x).roster = s.roster := rfl
@[simp] theorem State.setWatch_pair (j : SinkId) (x : Watch) (s : State) : (s.setWatch j x).pair = s.pair := rfl
@[simp] theorem State.setWatch_keyUnit (j : SinkId) (x : Watch) (s : State) : (s.setWatch j x).keyUnit = s.keyUnit := rfl
@[simp] theorem State.setWatch_air (j : SinkId) (x : Watch) (s : State) : (s.setWatch j x).air = s.air := rfl
@[simp] theorem State.setWatch_slots (j : SinkId) (x : Watch) (s : State) : (s.setWatch j x).slots = s.slots := rfl
@[simp] theorem State.setWatch_stores (j : SinkId) (x : Watch) (s : State) : (s.setWatch j x).stores = s.stores := rfl
@[simp] theorem State.setWatch_queues (j : SinkId) (x : Watch) (s : State) : (s.setWatch j x).queues = s.queues := rfl
@[simp] theorem State.setWatch_convs (j : SinkId) (x : Watch) (s : State) : (s.setWatch j x).convs = s.convs := rfl
@[simp] theorem State.setWatch_mix (j : SinkId) (x : Watch) (s : State) : (s.setWatch j x).mix = s.mix := rfl
@[simp] theorem State.setWatch_voices (j : SinkId) (x : Watch) (s : State) : (s.setWatch j x).voices = s.voices := rfl
@[simp] theorem State.setWatch_watches (j : SinkId) (x : Watch) (s : State) : (s.setWatch j x).watches = s.watches.set j x := rfl
@[simp] theorem State.setWatch_port (j : SinkId) (x : Watch) (s : State) : (s.setWatch j x).port = s.port := rfl
@[simp] theorem State.setWatch_notices (j : SinkId) (x : Watch) (s : State) : (s.setWatch j x).notices = s.notices := rfl
@[simp] theorem State.setWatch_control (j : SinkId) (x : Watch) (s : State) : (s.setWatch j x).control = s.control := rfl
@[simp] theorem State.setWatch_draws (j : SinkId) (x : Watch) (s : State) : (s.setWatch j x).draws = s.draws := rfl
@[simp] theorem State.setWatch_pending (j : SinkId) (x : Watch) (s : State) : (s.setWatch j x).pending = s.pending := rfl

/-! `State.setPair` changes `pair`. -/

@[simp] theorem State.setPair_call (p : PairContext) (s : State) : (s.setPair p).call = s.call := rfl
@[simp] theorem State.setPair_roster (p : PairContext) (s : State) : (s.setPair p).roster = s.roster := rfl
@[simp] theorem State.setPair_pair (p : PairContext) (s : State) : (s.setPair p).pair = p := rfl
@[simp] theorem State.setPair_keyUnit (p : PairContext) (s : State) : (s.setPair p).keyUnit = s.keyUnit := rfl
@[simp] theorem State.setPair_air (p : PairContext) (s : State) : (s.setPair p).air = s.air := rfl
@[simp] theorem State.setPair_slots (p : PairContext) (s : State) : (s.setPair p).slots = s.slots := rfl
@[simp] theorem State.setPair_stores (p : PairContext) (s : State) : (s.setPair p).stores = s.stores := rfl
@[simp] theorem State.setPair_queues (p : PairContext) (s : State) : (s.setPair p).queues = s.queues := rfl
@[simp] theorem State.setPair_convs (p : PairContext) (s : State) : (s.setPair p).convs = s.convs := rfl
@[simp] theorem State.setPair_mix (p : PairContext) (s : State) : (s.setPair p).mix = s.mix := rfl
@[simp] theorem State.setPair_voices (p : PairContext) (s : State) : (s.setPair p).voices = s.voices := rfl
@[simp] theorem State.setPair_watches (p : PairContext) (s : State) : (s.setPair p).watches = s.watches := rfl
@[simp] theorem State.setPair_port (p : PairContext) (s : State) : (s.setPair p).port = s.port := rfl
@[simp] theorem State.setPair_notices (p : PairContext) (s : State) : (s.setPair p).notices = s.notices := rfl
@[simp] theorem State.setPair_control (p : PairContext) (s : State) : (s.setPair p).control = s.control := rfl
@[simp] theorem State.setPair_draws (p : PairContext) (s : State) : (s.setPair p).draws = s.draws := rfl
@[simp] theorem State.setPair_pending (p : PairContext) (s : State) : (s.setPair p).pending = s.pending := rfl

/-! `State.setControl` changes `control`. -/

@[simp] theorem State.setControl_call (x : ControlPort) (s : State) : (s.setControl x).call = s.call := rfl
@[simp] theorem State.setControl_roster (x : ControlPort) (s : State) : (s.setControl x).roster = s.roster := rfl
@[simp] theorem State.setControl_pair (x : ControlPort) (s : State) : (s.setControl x).pair = s.pair := rfl
@[simp] theorem State.setControl_keyUnit (x : ControlPort) (s : State) : (s.setControl x).keyUnit = s.keyUnit := rfl
@[simp] theorem State.setControl_air (x : ControlPort) (s : State) : (s.setControl x).air = s.air := rfl
@[simp] theorem State.setControl_slots (x : ControlPort) (s : State) : (s.setControl x).slots = s.slots := rfl
@[simp] theorem State.setControl_stores (x : ControlPort) (s : State) : (s.setControl x).stores = s.stores := rfl
@[simp] theorem State.setControl_queues (x : ControlPort) (s : State) : (s.setControl x).queues = s.queues := rfl
@[simp] theorem State.setControl_convs (x : ControlPort) (s : State) : (s.setControl x).convs = s.convs := rfl
@[simp] theorem State.setControl_mix (x : ControlPort) (s : State) : (s.setControl x).mix = s.mix := rfl
@[simp] theorem State.setControl_voices (x : ControlPort) (s : State) : (s.setControl x).voices = s.voices := rfl
@[simp] theorem State.setControl_watches (x : ControlPort) (s : State) : (s.setControl x).watches = s.watches := rfl
@[simp] theorem State.setControl_port (x : ControlPort) (s : State) : (s.setControl x).port = s.port := rfl
@[simp] theorem State.setControl_notices (x : ControlPort) (s : State) : (s.setControl x).notices = s.notices := rfl
@[simp] theorem State.setControl_control (x : ControlPort) (s : State) : (s.setControl x).control = x := rfl
@[simp] theorem State.setControl_draws (x : ControlPort) (s : State) : (s.setControl x).draws = s.draws := rfl
@[simp] theorem State.setControl_pending (x : ControlPort) (s : State) : (s.setControl x).pending = s.pending := rfl

/-! `State.withQueue` changes `pending`. -/

@[simp] theorem State.withQueue_call (s : State) (queue : List Instr) : (s.withQueue queue).call = s.call := rfl
@[simp] theorem State.withQueue_roster (s : State) (queue : List Instr) : (s.withQueue queue).roster = s.roster := rfl
@[simp] theorem State.withQueue_pair (s : State) (queue : List Instr) : (s.withQueue queue).pair = s.pair := rfl
@[simp] theorem State.withQueue_keyUnit (s : State) (queue : List Instr) : (s.withQueue queue).keyUnit = s.keyUnit := rfl
@[simp] theorem State.withQueue_air (s : State) (queue : List Instr) : (s.withQueue queue).air = s.air := rfl
@[simp] theorem State.withQueue_slots (s : State) (queue : List Instr) : (s.withQueue queue).slots = s.slots := rfl
@[simp] theorem State.withQueue_stores (s : State) (queue : List Instr) : (s.withQueue queue).stores = s.stores := rfl
@[simp] theorem State.withQueue_queues (s : State) (queue : List Instr) : (s.withQueue queue).queues = s.queues := rfl
@[simp] theorem State.withQueue_convs (s : State) (queue : List Instr) : (s.withQueue queue).convs = s.convs := rfl
@[simp] theorem State.withQueue_mix (s : State) (queue : List Instr) : (s.withQueue queue).mix = s.mix := rfl
@[simp] theorem State.withQueue_voices (s : State) (queue : List Instr) : (s.withQueue queue).voices = s.voices := rfl
@[simp] theorem State.withQueue_watches (s : State) (queue : List Instr) : (s.withQueue queue).watches = s.watches := rfl
@[simp] theorem State.withQueue_port (s : State) (queue : List Instr) : (s.withQueue queue).port = s.port := rfl
@[simp] theorem State.withQueue_notices (s : State) (queue : List Instr) : (s.withQueue queue).notices = s.notices := rfl
@[simp] theorem State.withQueue_control (s : State) (queue : List Instr) : (s.withQueue queue).control = s.control := rfl
@[simp] theorem State.withQueue_draws (s : State) (queue : List Instr) : (s.withQueue queue).draws = s.draws := rfl
@[simp] theorem State.withQueue_pending (s : State) (queue : List Instr) : (s.withQueue queue).pending = queue := rfl

/-! `raise` changes `notices`. -/

@[simp] theorem raise_call (src : SourceId) (code : Byte) (value : Count32) (s : State) : (raise src code value s).call = s.call := rfl
@[simp] theorem raise_roster (src : SourceId) (code : Byte) (value : Count32) (s : State) : (raise src code value s).roster = s.roster := rfl
@[simp] theorem raise_pair (src : SourceId) (code : Byte) (value : Count32) (s : State) : (raise src code value s).pair = s.pair := rfl
@[simp] theorem raise_keyUnit (src : SourceId) (code : Byte) (value : Count32) (s : State) : (raise src code value s).keyUnit = s.keyUnit := rfl
@[simp] theorem raise_air (src : SourceId) (code : Byte) (value : Count32) (s : State) : (raise src code value s).air = s.air := rfl
@[simp] theorem raise_slots (src : SourceId) (code : Byte) (value : Count32) (s : State) : (raise src code value s).slots = s.slots := rfl
@[simp] theorem raise_stores (src : SourceId) (code : Byte) (value : Count32) (s : State) : (raise src code value s).stores = s.stores := rfl
@[simp] theorem raise_queues (src : SourceId) (code : Byte) (value : Count32) (s : State) : (raise src code value s).queues = s.queues := rfl
@[simp] theorem raise_convs (src : SourceId) (code : Byte) (value : Count32) (s : State) : (raise src code value s).convs = s.convs := rfl
@[simp] theorem raise_mix (src : SourceId) (code : Byte) (value : Count32) (s : State) : (raise src code value s).mix = s.mix := rfl
@[simp] theorem raise_voices (src : SourceId) (code : Byte) (value : Count32) (s : State) : (raise src code value s).voices = s.voices := rfl
@[simp] theorem raise_watches (src : SourceId) (code : Byte) (value : Count32) (s : State) : (raise src code value s).watches = s.watches := rfl
@[simp] theorem raise_port (src : SourceId) (code : Byte) (value : Count32) (s : State) : (raise src code value s).port = s.port := rfl
@[simp] theorem raise_notices (src : SourceId) (code : Byte) (value : Count32) (s : State) : (raise src code value s).notices = s.notices.occur src none code value := rfl
@[simp] theorem raise_control (src : SourceId) (code : Byte) (value : Count32) (s : State) : (raise src code value s).control = s.control := rfl
@[simp] theorem raise_draws (src : SourceId) (code : Byte) (value : Count32) (s : State) : (raise src code value s).draws = s.draws := rfl
@[simp] theorem raise_pending (src : SourceId) (code : Byte) (value : Count32) (s : State) : (raise src code value s).pending = s.pending := rfl

/-! `raiseAt` changes `notices`. -/

@[simp] theorem raiseAt_call (src : SourceId) (code : Byte) (index : Nat) (s : State) : (raiseAt src code index s).call = s.call := rfl
@[simp] theorem raiseAt_roster (src : SourceId) (code : Byte) (index : Nat) (s : State) : (raiseAt src code index s).roster = s.roster := rfl
@[simp] theorem raiseAt_pair (src : SourceId) (code : Byte) (index : Nat) (s : State) : (raiseAt src code index s).pair = s.pair := rfl
@[simp] theorem raiseAt_keyUnit (src : SourceId) (code : Byte) (index : Nat) (s : State) : (raiseAt src code index s).keyUnit = s.keyUnit := rfl
@[simp] theorem raiseAt_air (src : SourceId) (code : Byte) (index : Nat) (s : State) : (raiseAt src code index s).air = s.air := rfl
@[simp] theorem raiseAt_slots (src : SourceId) (code : Byte) (index : Nat) (s : State) : (raiseAt src code index s).slots = s.slots := rfl
@[simp] theorem raiseAt_stores (src : SourceId) (code : Byte) (index : Nat) (s : State) : (raiseAt src code index s).stores = s.stores := rfl
@[simp] theorem raiseAt_queues (src : SourceId) (code : Byte) (index : Nat) (s : State) : (raiseAt src code index s).queues = s.queues := rfl
@[simp] theorem raiseAt_convs (src : SourceId) (code : Byte) (index : Nat) (s : State) : (raiseAt src code index s).convs = s.convs := rfl
@[simp] theorem raiseAt_mix (src : SourceId) (code : Byte) (index : Nat) (s : State) : (raiseAt src code index s).mix = s.mix := rfl
@[simp] theorem raiseAt_voices (src : SourceId) (code : Byte) (index : Nat) (s : State) : (raiseAt src code index s).voices = s.voices := rfl
@[simp] theorem raiseAt_watches (src : SourceId) (code : Byte) (index : Nat) (s : State) : (raiseAt src code index s).watches = s.watches := rfl
@[simp] theorem raiseAt_port (src : SourceId) (code : Byte) (index : Nat) (s : State) : (raiseAt src code index s).port = s.port := rfl
@[simp] theorem raiseAt_notices (src : SourceId) (code : Byte) (index : Nat) (s : State) : (raiseAt src code index s).notices = s.notices.occur src (some index) code (BitVec.ofNat 32 index) := rfl
@[simp] theorem raiseAt_control (src : SourceId) (code : Byte) (index : Nat) (s : State) : (raiseAt src code index s).control = s.control := rfl
@[simp] theorem raiseAt_draws (src : SourceId) (code : Byte) (index : Nat) (s : State) : (raiseAt src code index s).draws = s.draws := rfl
@[simp] theorem raiseAt_pending (src : SourceId) (code : Byte) (index : Nat) (s : State) : (raiseAt src code index s).pending = s.pending := rfl

/-! `passTime` changes `air`. -/

@[simp] theorem passTime_call (elapsed : Tick) (s : State) : (passTime elapsed s).call = s.call := rfl
@[simp] theorem passTime_roster (elapsed : Tick) (s : State) : (passTime elapsed s).roster = s.roster := rfl
@[simp] theorem passTime_pair (elapsed : Tick) (s : State) : (passTime elapsed s).pair = s.pair := rfl
@[simp] theorem passTime_keyUnit (elapsed : Tick) (s : State) : (passTime elapsed s).keyUnit = s.keyUnit := rfl
@[simp] theorem passTime_air (elapsed : Tick) (s : State) : (passTime elapsed s).air = { s.air with timeBase := s.air.timeBase + elapsed } := rfl
@[simp] theorem passTime_slots (elapsed : Tick) (s : State) : (passTime elapsed s).slots = s.slots := rfl
@[simp] theorem passTime_stores (elapsed : Tick) (s : State) : (passTime elapsed s).stores = s.stores := rfl
@[simp] theorem passTime_queues (elapsed : Tick) (s : State) : (passTime elapsed s).queues = s.queues := rfl
@[simp] theorem passTime_convs (elapsed : Tick) (s : State) : (passTime elapsed s).convs = s.convs := rfl
@[simp] theorem passTime_mix (elapsed : Tick) (s : State) : (passTime elapsed s).mix = s.mix := rfl
@[simp] theorem passTime_voices (elapsed : Tick) (s : State) : (passTime elapsed s).voices = s.voices := rfl
@[simp] theorem passTime_watches (elapsed : Tick) (s : State) : (passTime elapsed s).watches = s.watches := rfl
@[simp] theorem passTime_port (elapsed : Tick) (s : State) : (passTime elapsed s).port = s.port := rfl
@[simp] theorem passTime_notices (elapsed : Tick) (s : State) : (passTime elapsed s).notices = s.notices := rfl
@[simp] theorem passTime_control (elapsed : Tick) (s : State) : (passTime elapsed s).control = s.control := rfl
@[simp] theorem passTime_draws (elapsed : Tick) (s : State) : (passTime elapsed s).draws = s.draws := rfl
@[simp] theorem passTime_pending (elapsed : Tick) (s : State) : (passTime elapsed s).pending = s.pending := rfl

/-! `setUse` changes `air`. -/

@[simp] theorem setUse_call (u : SlotUse) (s : State) : (setUse u s).call = s.call := rfl
@[simp] theorem setUse_roster (u : SlotUse) (s : State) : (setUse u s).roster = s.roster := rfl
@[simp] theorem setUse_pair (u : SlotUse) (s : State) : (setUse u s).pair = s.pair := rfl
@[simp] theorem setUse_keyUnit (u : SlotUse) (s : State) : (setUse u s).keyUnit = s.keyUnit := rfl
@[simp] theorem setUse_air (u : SlotUse) (s : State) : (setUse u s).air = { s.air with use := u } := rfl
@[simp] theorem setUse_slots (u : SlotUse) (s : State) : (setUse u s).slots = s.slots := rfl
@[simp] theorem setUse_stores (u : SlotUse) (s : State) : (setUse u s).stores = s.stores := rfl
@[simp] theorem setUse_queues (u : SlotUse) (s : State) : (setUse u s).queues = s.queues := rfl
@[simp] theorem setUse_convs (u : SlotUse) (s : State) : (setUse u s).convs = s.convs := rfl
@[simp] theorem setUse_mix (u : SlotUse) (s : State) : (setUse u s).mix = s.mix := rfl
@[simp] theorem setUse_voices (u : SlotUse) (s : State) : (setUse u s).voices = s.voices := rfl
@[simp] theorem setUse_watches (u : SlotUse) (s : State) : (setUse u s).watches = s.watches := rfl
@[simp] theorem setUse_port (u : SlotUse) (s : State) : (setUse u s).port = s.port := rfl
@[simp] theorem setUse_notices (u : SlotUse) (s : State) : (setUse u s).notices = s.notices := rfl
@[simp] theorem setUse_control (u : SlotUse) (s : State) : (setUse u s).control = s.control := rfl
@[simp] theorem setUse_draws (u : SlotUse) (s : State) : (setUse u s).draws = s.draws := rfl
@[simp] theorem setUse_pending (u : SlotUse) (s : State) : (setUse u s).pending = s.pending := rfl

/-! `sendFrame` changes `air`. -/

@[simp] theorem sendFrame_call (destination : Address) (payload : AirPayload) (s : State) : (sendFrame destination payload s).call = s.call := rfl
@[simp] theorem sendFrame_roster (destination : Address) (payload : AirPayload) (s : State) : (sendFrame destination payload s).roster = s.roster := rfl
@[simp] theorem sendFrame_pair (destination : Address) (payload : AirPayload) (s : State) : (sendFrame destination payload s).pair = s.pair := rfl
@[simp] theorem sendFrame_keyUnit (destination : Address) (payload : AirPayload) (s : State) : (sendFrame destination payload s).keyUnit = s.keyUnit := rfl
@[simp] theorem sendFrame_air (destination : Address) (payload : AirPayload) (s : State) : (sendFrame destination payload s).air = { s.air with sent := some ⟨destination, Config.partAddress, payload⟩ } := rfl
@[simp] theorem sendFrame_slots (destination : Address) (payload : AirPayload) (s : State) : (sendFrame destination payload s).slots = s.slots := rfl
@[simp] theorem sendFrame_stores (destination : Address) (payload : AirPayload) (s : State) : (sendFrame destination payload s).stores = s.stores := rfl
@[simp] theorem sendFrame_queues (destination : Address) (payload : AirPayload) (s : State) : (sendFrame destination payload s).queues = s.queues := rfl
@[simp] theorem sendFrame_convs (destination : Address) (payload : AirPayload) (s : State) : (sendFrame destination payload s).convs = s.convs := rfl
@[simp] theorem sendFrame_mix (destination : Address) (payload : AirPayload) (s : State) : (sendFrame destination payload s).mix = s.mix := rfl
@[simp] theorem sendFrame_voices (destination : Address) (payload : AirPayload) (s : State) : (sendFrame destination payload s).voices = s.voices := rfl
@[simp] theorem sendFrame_watches (destination : Address) (payload : AirPayload) (s : State) : (sendFrame destination payload s).watches = s.watches := rfl
@[simp] theorem sendFrame_port (destination : Address) (payload : AirPayload) (s : State) : (sendFrame destination payload s).port = s.port := rfl
@[simp] theorem sendFrame_notices (destination : Address) (payload : AirPayload) (s : State) : (sendFrame destination payload s).notices = s.notices := rfl
@[simp] theorem sendFrame_control (destination : Address) (payload : AirPayload) (s : State) : (sendFrame destination payload s).control = s.control := rfl
@[simp] theorem sendFrame_draws (destination : Address) (payload : AirPayload) (s : State) : (sendFrame destination payload s).draws = s.draws := rfl
@[simp] theorem sendFrame_pending (destination : Address) (payload : AirPayload) (s : State) : (sendFrame destination payload s).pending = s.pending := rfl

/-! `dropRequest` changes `control`. -/

@[simp] theorem dropRequest_call (s : State) : (dropRequest s).call = s.call := rfl
@[simp] theorem dropRequest_roster (s : State) : (dropRequest s).roster = s.roster := rfl
@[simp] theorem dropRequest_pair (s : State) : (dropRequest s).pair = s.pair := rfl
@[simp] theorem dropRequest_keyUnit (s : State) : (dropRequest s).keyUnit = s.keyUnit := rfl
@[simp] theorem dropRequest_air (s : State) : (dropRequest s).air = s.air := rfl
@[simp] theorem dropRequest_slots (s : State) : (dropRequest s).slots = s.slots := rfl
@[simp] theorem dropRequest_stores (s : State) : (dropRequest s).stores = s.stores := rfl
@[simp] theorem dropRequest_queues (s : State) : (dropRequest s).queues = s.queues := rfl
@[simp] theorem dropRequest_convs (s : State) : (dropRequest s).convs = s.convs := rfl
@[simp] theorem dropRequest_mix (s : State) : (dropRequest s).mix = s.mix := rfl
@[simp] theorem dropRequest_voices (s : State) : (dropRequest s).voices = s.voices := rfl
@[simp] theorem dropRequest_watches (s : State) : (dropRequest s).watches = s.watches := rfl
@[simp] theorem dropRequest_port (s : State) : (dropRequest s).port = s.port := rfl
@[simp] theorem dropRequest_notices (s : State) : (dropRequest s).notices = s.notices := rfl
@[simp] theorem dropRequest_control (s : State) : (dropRequest s).control = { s.control with requests := s.control.requests.tail } := rfl
@[simp] theorem dropRequest_draws (s : State) : (dropRequest s).draws = s.draws := rfl
@[simp] theorem dropRequest_pending (s : State) : (dropRequest s).pending = s.pending := rfl

/-! `appendReply` changes `control`. -/

@[simp] theorem appendReply_call (m : Message) (s : State) : (appendReply m s).call = s.call := rfl
@[simp] theorem appendReply_roster (m : Message) (s : State) : (appendReply m s).roster = s.roster := rfl
@[simp] theorem appendReply_pair (m : Message) (s : State) : (appendReply m s).pair = s.pair := rfl
@[simp] theorem appendReply_keyUnit (m : Message) (s : State) : (appendReply m s).keyUnit = s.keyUnit := rfl
@[simp] theorem appendReply_air (m : Message) (s : State) : (appendReply m s).air = s.air := rfl
@[simp] theorem appendReply_slots (m : Message) (s : State) : (appendReply m s).slots = s.slots := rfl
@[simp] theorem appendReply_stores (m : Message) (s : State) : (appendReply m s).stores = s.stores := rfl
@[simp] theorem appendReply_queues (m : Message) (s : State) : (appendReply m s).queues = s.queues := rfl
@[simp] theorem appendReply_convs (m : Message) (s : State) : (appendReply m s).convs = s.convs := rfl
@[simp] theorem appendReply_mix (m : Message) (s : State) : (appendReply m s).mix = s.mix := rfl
@[simp] theorem appendReply_voices (m : Message) (s : State) : (appendReply m s).voices = s.voices := rfl
@[simp] theorem appendReply_watches (m : Message) (s : State) : (appendReply m s).watches = s.watches := rfl
@[simp] theorem appendReply_port (m : Message) (s : State) : (appendReply m s).port = s.port := rfl
@[simp] theorem appendReply_notices (m : Message) (s : State) : (appendReply m s).notices = s.notices := rfl
@[simp] theorem appendReply_control (m : Message) (s : State) : (appendReply m s).control = { s.control with replies := s.control.replies ++ [m] } := rfl
@[simp] theorem appendReply_draws (m : Message) (s : State) : (appendReply m s).draws = s.draws := rfl
@[simp] theorem appendReply_pending (m : Message) (s : State) : (appendReply m s).pending = s.pending := rfl

/-! `countDraw` changes `draws`. -/

@[simp] theorem countDraw_call (s : State) : (countDraw s).call = s.call := rfl
@[simp] theorem countDraw_roster (s : State) : (countDraw s).roster = s.roster := rfl
@[simp] theorem countDraw_pair (s : State) : (countDraw s).pair = s.pair := rfl
@[simp] theorem countDraw_keyUnit (s : State) : (countDraw s).keyUnit = s.keyUnit := rfl
@[simp] theorem countDraw_air (s : State) : (countDraw s).air = s.air := rfl
@[simp] theorem countDraw_slots (s : State) : (countDraw s).slots = s.slots := rfl
@[simp] theorem countDraw_stores (s : State) : (countDraw s).stores = s.stores := rfl
@[simp] theorem countDraw_queues (s : State) : (countDraw s).queues = s.queues := rfl
@[simp] theorem countDraw_convs (s : State) : (countDraw s).convs = s.convs := rfl
@[simp] theorem countDraw_mix (s : State) : (countDraw s).mix = s.mix := rfl
@[simp] theorem countDraw_voices (s : State) : (countDraw s).voices = s.voices := rfl
@[simp] theorem countDraw_watches (s : State) : (countDraw s).watches = s.watches := rfl
@[simp] theorem countDraw_port (s : State) : (countDraw s).port = s.port := rfl
@[simp] theorem countDraw_notices (s : State) : (countDraw s).notices = s.notices := rfl
@[simp] theorem countDraw_control (s : State) : (countDraw s).control = s.control := rfl
@[simp] theorem countDraw_draws (s : State) : (countDraw s).draws = s.draws + 1 := rfl
@[simp] theorem countDraw_pending (s : State) : (countDraw s).pending = s.pending := rfl

/-! `passToOffset` changes `air`. -/

@[simp] theorem passToOffset_call (offset : Tick) (s : State) : (passToOffset offset s).call = s.call := rfl
@[simp] theorem passToOffset_roster (offset : Tick) (s : State) : (passToOffset offset s).roster = s.roster := rfl
@[simp] theorem passToOffset_pair (offset : Tick) (s : State) : (passToOffset offset s).pair = s.pair := rfl
@[simp] theorem passToOffset_keyUnit (offset : Tick) (s : State) : (passToOffset offset s).keyUnit = s.keyUnit := rfl
@[simp] theorem passToOffset_air (offset : Tick) (s : State) : (passToOffset offset s).air = passUntil (s.air.anchor + offset) s.air := rfl
@[simp] theorem passToOffset_slots (offset : Tick) (s : State) : (passToOffset offset s).slots = s.slots := rfl
@[simp] theorem passToOffset_stores (offset : Tick) (s : State) : (passToOffset offset s).stores = s.stores := rfl
@[simp] theorem passToOffset_queues (offset : Tick) (s : State) : (passToOffset offset s).queues = s.queues := rfl
@[simp] theorem passToOffset_convs (offset : Tick) (s : State) : (passToOffset offset s).convs = s.convs := rfl
@[simp] theorem passToOffset_mix (offset : Tick) (s : State) : (passToOffset offset s).mix = s.mix := rfl
@[simp] theorem passToOffset_voices (offset : Tick) (s : State) : (passToOffset offset s).voices = s.voices := rfl
@[simp] theorem passToOffset_watches (offset : Tick) (s : State) : (passToOffset offset s).watches = s.watches := rfl
@[simp] theorem passToOffset_port (offset : Tick) (s : State) : (passToOffset offset s).port = s.port := rfl
@[simp] theorem passToOffset_notices (offset : Tick) (s : State) : (passToOffset offset s).notices = s.notices := rfl
@[simp] theorem passToOffset_control (offset : Tick) (s : State) : (passToOffset offset s).control = s.control := rfl
@[simp] theorem passToOffset_draws (offset : Tick) (s : State) : (passToOffset offset s).draws = s.draws := rfl
@[simp] theorem passToOffset_pending (offset : Tick) (s : State) : (passToOffset offset s).pending = s.pending := rfl

/-! `beginSlot` changes `air`. -/

@[simp] theorem beginSlot_call (n : Fin 10) (s : State) : (beginSlot n s).call = s.call := rfl
@[simp] theorem beginSlot_roster (n : Fin 10) (s : State) : (beginSlot n s).roster = s.roster := rfl
@[simp] theorem beginSlot_pair (n : Fin 10) (s : State) : (beginSlot n s).pair = s.pair := rfl
@[simp] theorem beginSlot_keyUnit (n : Fin 10) (s : State) : (beginSlot n s).keyUnit = s.keyUnit := rfl
@[simp] theorem beginSlot_air (n : Fin 10) (s : State) : (beginSlot n s).air = { passUntil (slotStartTime s.air.interval n) s.air with slot := some n, anchor := slotStartTime s.air.interval n, use := .idle, sent := none } := rfl
@[simp] theorem beginSlot_slots (n : Fin 10) (s : State) : (beginSlot n s).slots = s.slots := rfl
@[simp] theorem beginSlot_stores (n : Fin 10) (s : State) : (beginSlot n s).stores = s.stores := rfl
@[simp] theorem beginSlot_queues (n : Fin 10) (s : State) : (beginSlot n s).queues = s.queues := rfl
@[simp] theorem beginSlot_convs (n : Fin 10) (s : State) : (beginSlot n s).convs = s.convs := rfl
@[simp] theorem beginSlot_mix (n : Fin 10) (s : State) : (beginSlot n s).mix = s.mix := rfl
@[simp] theorem beginSlot_voices (n : Fin 10) (s : State) : (beginSlot n s).voices = s.voices := rfl
@[simp] theorem beginSlot_watches (n : Fin 10) (s : State) : (beginSlot n s).watches = s.watches := rfl
@[simp] theorem beginSlot_port (n : Fin 10) (s : State) : (beginSlot n s).port = s.port := rfl
@[simp] theorem beginSlot_notices (n : Fin 10) (s : State) : (beginSlot n s).notices = s.notices := rfl
@[simp] theorem beginSlot_control (n : Fin 10) (s : State) : (beginSlot n s).control = s.control := rfl
@[simp] theorem beginSlot_draws (n : Fin 10) (s : State) : (beginSlot n s).draws = s.draws := rfl
@[simp] theorem beginSlot_pending (n : Fin 10) (s : State) : (beginSlot n s).pending = s.pending := rfl

/-! `nextInterval` changes `air`. -/

@[simp] theorem nextInterval_call (s : State) : (nextInterval s).call = s.call := rfl
@[simp] theorem nextInterval_roster (s : State) : (nextInterval s).roster = s.roster := rfl
@[simp] theorem nextInterval_pair (s : State) : (nextInterval s).pair = s.pair := rfl
@[simp] theorem nextInterval_keyUnit (s : State) : (nextInterval s).keyUnit = s.keyUnit := rfl
@[simp] theorem nextInterval_air (s : State) : (nextInterval s).air = { passUntil (intervalStart (s.air.interval + 1)) s.air with interval := s.air.interval + 1, slot := none, use := .idle, sent := none } := rfl
@[simp] theorem nextInterval_slots (s : State) : (nextInterval s).slots = s.slots := rfl
@[simp] theorem nextInterval_stores (s : State) : (nextInterval s).stores = s.stores := rfl
@[simp] theorem nextInterval_queues (s : State) : (nextInterval s).queues = s.queues := rfl
@[simp] theorem nextInterval_convs (s : State) : (nextInterval s).convs = s.convs := rfl
@[simp] theorem nextInterval_mix (s : State) : (nextInterval s).mix = s.mix := rfl
@[simp] theorem nextInterval_voices (s : State) : (nextInterval s).voices = s.voices := rfl
@[simp] theorem nextInterval_watches (s : State) : (nextInterval s).watches = s.watches := rfl
@[simp] theorem nextInterval_port (s : State) : (nextInterval s).port = s.port := rfl
@[simp] theorem nextInterval_notices (s : State) : (nextInterval s).notices = s.notices := rfl
@[simp] theorem nextInterval_control (s : State) : (nextInterval s).control = s.control := rfl
@[simp] theorem nextInterval_draws (s : State) : (nextInterval s).draws = s.draws := rfl
@[simp] theorem nextInterval_pending (s : State) : (nextInterval s).pending = s.pending := rfl

/-! `advanceBlock` changes `call`. -/

@[simp] theorem advanceBlock_call (s : State) : (advanceBlock s).call = { s.call with blockNumber := s.call.blockNumber + 1 } := rfl
@[simp] theorem advanceBlock_roster (s : State) : (advanceBlock s).roster = s.roster := rfl
@[simp] theorem advanceBlock_pair (s : State) : (advanceBlock s).pair = s.pair := rfl
@[simp] theorem advanceBlock_keyUnit (s : State) : (advanceBlock s).keyUnit = s.keyUnit := rfl
@[simp] theorem advanceBlock_air (s : State) : (advanceBlock s).air = s.air := rfl
@[simp] theorem advanceBlock_slots (s : State) : (advanceBlock s).slots = s.slots := rfl
@[simp] theorem advanceBlock_stores (s : State) : (advanceBlock s).stores = s.stores := rfl
@[simp] theorem advanceBlock_queues (s : State) : (advanceBlock s).queues = s.queues := rfl
@[simp] theorem advanceBlock_convs (s : State) : (advanceBlock s).convs = s.convs := rfl
@[simp] theorem advanceBlock_mix (s : State) : (advanceBlock s).mix = s.mix := rfl
@[simp] theorem advanceBlock_voices (s : State) : (advanceBlock s).voices = s.voices := rfl
@[simp] theorem advanceBlock_watches (s : State) : (advanceBlock s).watches = s.watches := rfl
@[simp] theorem advanceBlock_port (s : State) : (advanceBlock s).port = s.port := rfl
@[simp] theorem advanceBlock_notices (s : State) : (advanceBlock s).notices = s.notices := rfl
@[simp] theorem advanceBlock_control (s : State) : (advanceBlock s).control = s.control := rfl
@[simp] theorem advanceBlock_draws (s : State) : (advanceBlock s).draws = s.draws := rfl
@[simp] theorem advanceBlock_pending (s : State) : (advanceBlock s).pending = s.pending := rfl

end Sys2Proof.Machine
end

