-- ==== Sys2Proof/Laws/Block.lean ====
section
/-! SUPPORT. What each stage of a block event reaches (chapters 6 to 9), every other part standing, and what the event does as a
whole. -/

namespace Sys2Proof.Machine

open Sys2Proof

/-- An occurrence reaches the notices alone. -/
theorem raiseAt_fields (src : SourceId) (code : Byte) (index : Nat) (s : State) :
    raiseAt src code index s = { s with notices := (raiseAt src code index s).notices } := rfl

/-- A stream's conversion reaches its converter, its queue and the notices (R118). -/
theorem convertStream_fields (k : SlotId) (s : State) :
    convertStream k s
      = { s with
        convs := s.convs.set k (conversionOf k s).conv, queues := s.queues.set k (conversionOf k s).queue,
        notices := (convertStream k s).notices } := by
  unfold convertStream
  dsimp only
  split <;> rfl

/-- The forming of a voice reaches that voice and the notices (R142). -/
theorem formVoiceAt_fields (i : VoiceId) (outputs : StreamOutputs) (s : State) :
    formVoiceAt i outputs s
      = { s with
        voices := s.voices.set i (formVoice s.queues outputs s.voices[i]).voice,
        notices := (formVoiceAt i outputs s).notices } := by
  unfold formVoiceAt raiseSwitch
  split <;> rfl

/-- The copy at the start of a mix reaches the banks, the flag and the notices (R125). -/
theorem commitAtBlock_fields (s : State) :
    commitAtBlock s
      = { s with
        mix := if s.mix.commitPending then s.mix.copied else s.mix, notices := (commitAtBlock s).notices } := by
  unfold commitAtBlock
  cases s.mix.commitPending <;> rfl

/-- The counting of clamps reaches the clamp counts and the notices (R130). -/
theorem accountClamps_fields (n : Nat) (j : SinkId) (terms : List Term) (s : State) :
    accountClamps n j terms s
      = { s with
        mix := { s.mix with clampCount := (accountClamps n j terms s).mix.clampCount },
        notices := (accountClamps n j terms s).notices } := by
  unfold accountClamps noteClamps
  dsimp only
  split
  · rfl
  · split
    · rfl
    · split <;> rfl

/-- A block handed to a watch reaches that watch and the notices (R147, R148). -/
theorem handToWatch_fields (j : SinkId) (block : List Sample) (s : State) :
    handToWatch j block s
      = { s with
        watches := s.watches.set j (s.watches[j].after block), notices := (handToWatch j block s).notices } := by
  unfold handToWatch
  split <;> rfl

/-- A block appended to a store reaches that store and the notices, and leaves at most two blocks there (R74). -/
theorem appendToStore_fields (k : SlotId) (b : Block) (s : State) :
    appendToStore k b s
      = { s with
        stores := s.stores.set k ((if 2 ≤ s.stores[k].length then s.stores[k].tail else s.stores[k]) ++ [b]),
        notices := (appendToStore k b s).notices } := by
  unfold appendToStore
  split <;> rfl

/-- A watch keeps its settings when a block is handed to it (R147). -/
theorem Watch.after_settings (block : List Sample) (w : Watch) :
    w.after block = { w with run := (w.after block).run, fired := (w.after block).fired } := by
  unfold Watch.after
  split <;> rfl


/-! ### A block event, whole -/

/-- The codes that a block event gives a source (R89, R144, R148, R130, R74). -/
def blockCodes (src : SourceId) : List Byte :=
  if src = Source.watch ∨ src = Source.voiceSwitch
    ∨ src = Source.commitDone then [1, 2] else [1]

/-- What stages of a block event raise. -/
def Told (cause : SourceId → Prop) (n m : Notices) : Prop :=
  m.route = n.route ∧ m.classes = n.classes ∧ m.outstanding = n.outstanding
    ∧ ∀ src : SourceId,
      (cause src → m.records[src].asserted = true ∧ m.records[src].latestCode ∈ blockCodes src)
        ∧ (¬cause src → m.records[src] = n.records[src])

/-- Nothing raised. -/
theorem Told.refl (n : Notices) : Told (fun _ => False) n n := by simp [Told]

/-- Two stages one after the other raise what either raises. -/
theorem Told.trans {a b : SourceId → Prop} {n m p : Notices} (h : Told a n m) (h' : Told b m p) :
    Told (fun src => a src ∨ b src) n p := by
  obtain ⟨h1, h2, h3, h4⟩ := h
  obtain ⟨g1, g2, g3, g4⟩ := h'
  refine ⟨g1.trans h1, g2.trans h2, g3.trans h3, fun src => ?_⟩
  by_cases hb : b src
  · exact ⟨fun _ => (g4 src).1 hb, fun h => absurd (Or.inr hb) h⟩
  · rw [(g4 src).2 hb]
    simpa [hb] using h4 src

/-- The same causes, said otherwise. -/
theorem Told.congr {a b : SourceId → Prop} {n m : Notices} (h : Told a n m) (e : ∀ src, a src ↔ b src) : Told b n m := by
  have : a = b := funext fun src => propext (e src)
  exact this ▸ h

/-- What a stage raises, in the words of the statements. -/
theorem Told.raised {a : SourceId → Prop} {s t : State} (h : Told a s.notices t.notices) (src : SourceId) (codes : List Byte)
    (hc : blockCodes src = codes) (cause : Prop) (e : a src ↔ cause) : raisedBy src codes cause s t := by
  subst hc
  exact ⟨fun g => (h.2.2.2 src).1 (e.2 g), fun g => (h.2.2.2 src).2 fun g' => g (e.1 g')⟩

/-- An occurrence raises its source. -/
theorem Told.occur (src : SourceId) (index : Option Nat) (code : Byte) (value : Count32) (n : Notices)
    (h : code ∈ blockCodes src) : Told (· = src) n (n.occur src index code value) := by
  refine ⟨rfl, rfl, rfl, fun other => ⟨?_, fun hn => ?_⟩⟩
  · rintro rfl
    simpa [Notices.occur, settleAttention, SourceRecord.occur] using h
  · have : ¬src.val = other.val := fun e => hn (Fin.ext e.symm)
    simp [Notices.occur, settleAttention, this]

/-- An occurrence that depends on a condition. -/
theorem Told.of_if {c : Prop} [Decidable c] (src : SourceId) (code : Byte) (index : Nat) (s u : State)
    (h : code ∈ blockCodes src) (hu : u.notices = s.notices) :
    Told (fun x => x = src ∧ c) s.notices (if c then raiseAt src code index u else u).notices := by
  rw [← hu]
  by_cases hc : c
  · rw [if_pos hc]
    exact (Told.occur src (some index) code _ u.notices h).congr fun x => by simp [hc]
  · rw [if_neg hc]
    exact (Told.refl _).congr fun x => by simp [hc]

/-- A stream that starves raises QUEUE_STARVED (R89). -/
theorem convertStream_told (k : SlotId) (s : State) :
    Told (fun x => x = Source.queueStarved ∧ (conversionOf k s).starved = true) s.notices (convertStream k s).notices :=
  Told.of_if Source.queueStarved 1 k s ((s.setConv k (conversionOf k s).conv).setQueue k (conversionOf k s).queue) (by decide) rfl

/-- A voice formed switches with code QUALITY or ABSENCE (R144). -/
theorem formVoice_switch_mem {queues : Vector RxQueue 4} {outputs : StreamOutputs} {v : Voice} {code : Byte}
    (h : (formVoice queues outputs v).switch = some code) : code ∈ blockCodes Source.voiceSwitch := by
  have : code = 1 ∨ code = 2 := by
    revert h
    unfold formVoice formSet electOne electBoth
    dsimp only
    repeat' split
    all_goals simp
    all_goals intro h
    all_goals simp [← h]
  rcases this with rfl | rfl <;> decide

/-- A winner switched raises VOICE_SWITCH (R144). -/
theorem formVoiceAt_told (i : VoiceId) (outputs : StreamOutputs) (s : State) :
    Told (fun x => x = Source.voiceSwitch ∧ (formVoice s.queues outputs s.voices[i]).switch ≠ none) s.notices
      (formVoiceAt i outputs s).notices := by
  unfold formVoiceAt raiseSwitch
  split
  · next c h =>
    exact (Told.occur Source.voiceSwitch (some i.val) c _ s.notices (formVoice_switch_mem h)).congr fun x => by rw [h]; simp
  · next h => exact (Told.refl _).congr fun x => by rw [h]; simp

/-- A muted sink counts no clamps (R130, R131). -/
theorem accountClamps_eq (n : Nat) (j : SinkId) (terms : List Term) (s : State) :
    accountClamps n j terms s = noteClamps j (if s.mix.active.mutes[j] then 0 else clampedIn n terms) s := by
  unfold accountClamps
  split <;> simp [noteClamps]

/-- Clamps of a sink that reports them raise SINK_CLAMP (R130). -/
theorem noteClamps_told (j : SinkId) (count : Nat) (s : State) :
    Told (fun x => x = Source.sinkClamp ∧ count ≠ 0 ∧ s.mix.clampReport[j] = true) s.notices
      (noteClamps j count s).notices := by
  unfold noteClamps
  by_cases h : count = 0
  · rw [if_pos h]; exact (Told.refl _).congr fun x => by simp [h]
  · rw [if_neg h]
    exact (Told.of_if Source.sinkClamp 1 j s
      { s with mix := { s.mix with clampCount := s.mix.clampCount.set j (bumpBy count s.mix.clampCount[j]) } }
      (by decide) rfl).congr fun x => by simp [h]

/-- Clamps are added to the count of their sink (R130). -/
theorem noteClamps_mix (j : SinkId) (count : Nat) (s : State) :
    (noteClamps j count s).mix = { s.mix with clampCount := s.mix.clampCount.set j (countedOn count s.mix.clampCount[j]) } := by
  unfold noteClamps countedOn bumpBy
  dsimp only
  split
  · simp
  · split <;> rfl

/-- A watch that fires raises WATCH (R148). -/
theorem handToWatch_told (j : SinkId) (block : List Sample) (s : State) :
    Told (fun x => x = Source.watch ∧ s.watches[j].fired = false ∧ (s.watches[j].after block).fired = true) s.notices
      (handToWatch j block s).notices := by
  generalize hw : s.watches[j] = w
  have hk : w.evaluated = true → w.kind.code ∈ blockCodes Source.watch := by
    cases h : w.kind <;> simp [Watch.evaluated, h, WatchKind.code, blockCodes]
  unfold handToWatch
  rw [hw]
  by_cases he : w.evaluated = true
  · have hf : w.fired = false := by simp [Watch.evaluated] at he; exact he.2
    exact (Told.of_if Source.watch _ j s (s.setWatch j (w.after block)) (hk he) rfl).congr fun x => by simp [Watch.after, he, hf]
  · rw [if_neg (by simp [he])]
    exact (Told.refl _).congr fun x => by simp [Watch.after, he]

/-- A block appended to a full store raises DOWN_SLIP (R74). -/
theorem appendToStore_told (k : SlotId) (b : Block) (s : State) :
    Told (fun x => x = Source.downSlip ∧ 2 ≤ s.stores[k].length) s.notices (appendToStore k b s).notices := by
  unfold appendToStore
  split
  · next h => exact (Told.occur Source.downSlip (some k.val) 1 _ s.notices (by decide)).congr fun x => by simp only [h, and_true]
  · next h => exact (Told.refl _).congr fun x => by simp only [h, and_false]


/-- A stream's conversion depends on its slot, the call, its converter and its queue. -/
theorem conversionOf_congr {k : SlotId} {s u : State} (hs : u.slots = s.slots) (hr : u.call = s.call)
    (hc : u.convs[k] = s.convs[k]) (hq : u.queues[k] = s.queues[k]) : conversionOf k u = conversionOf k s := by
  unfold conversionOf State.blockSamples
  rw [hs, hr, hc, hq]

/-- The four streams converted, whole (R118). -/
theorem convertStreams_spec (s : State) :
    ∃ n, convertStreams s = { s with
        convs := Vector.ofFn fun k => (conversionOf k s).conv, queues := Vector.ofFn fun k => (conversionOf k s).queue,
        notices := n }
      ∧ Told (fun x => x = Source.queueStarved ∧ ∃ k : SlotId, (conversionOf k s).starved = true) s.notices n := by
  have step : ∀ (k : SlotId) (cv : Vector Converter 4) (qs : Vector RxQueue 4) (n : Notices),
      cv[k] = s.convs[k] → qs[k] = s.queues[k] →
      ∃ m, convertStream k { s with convs := cv, queues := qs, notices := n }
          = { s with convs := cv.set k (conversionOf k s).conv, queues := qs.set k (conversionOf k s).queue, notices := m }
        ∧ Told (fun x => x = Source.queueStarved ∧ (conversionOf k s).starved = true) n m := by
    intro k cv qs n hc hq
    have he : conversionOf k { s with convs := cv, queues := qs, notices := n } = conversionOf k s :=
      conversionOf_congr rfl rfl hc hq
    have ht := convertStream_told k { s with convs := cv, queues := qs, notices := n }
    rw [he] at ht
    refine ⟨_, ?_, ht⟩
    rw [convertStream_fields, he]
  obtain ⟨n0, h0, t0⟩ := step 0 s.convs s.queues s.notices rfl rfl
  obtain ⟨n1, h1, t1⟩ := step 1 (s.convs.set 0 (conversionOf 0 s).conv) (s.queues.set 0 (conversionOf 0 s).queue) n0
    (by simp) (by simp)
  obtain ⟨n2, h2, t2⟩ := step 2 ((s.convs.set 0 (conversionOf 0 s).conv).set 1 (conversionOf 1 s).conv)
    ((s.queues.set 0 (conversionOf 0 s).queue).set 1 (conversionOf 1 s).queue) n1 (by simp) (by simp)
  obtain ⟨n3, h3, t3⟩ := step 3
    (((s.convs.set 0 (conversionOf 0 s).conv).set 1 (conversionOf 1 s).conv).set 2 (conversionOf 2 s).conv)
    (((s.queues.set 0 (conversionOf 0 s).queue).set 1 (conversionOf 1 s).queue).set 2 (conversionOf 2 s).queue) n2
    (by simp) (by simp)
  refine ⟨n3, ?_, (((t0.trans t1).trans t2).trans t3).congr fun x => ?_⟩
  · unfold convertStreams forEachSlot
    have hs : convertStream 0 s = convertStream 0 { s with convs := s.convs, queues := s.queues, notices := s.notices } := rfl
    rw [hs, h0]
    refine (congrArg (fun u => convertStream 3 (convertStream 2 u)) h1).trans ?_
    refine (congrArg (convertStream 3) h2).trans (h3.trans ?_)
    congr 1
    · ext i hi : 1
      match i, hi with
      | 0, _ => simp
      | 1, _ => simp
      | 2, _ => simp
      | 3, _ => simp
    · ext i hi : 1
      match i, hi with
      | 0, _ => simp
      | 1, _ => simp
      | 2, _ => simp
      | 3, _ => simp
  · have : (∃ k : SlotId, (conversionOf k s).starved = true) ↔ (conversionOf 0 s).starved = true ∨ (conversionOf 1 s).starved = true
        ∨ (conversionOf 2 s).starved = true ∨ (conversionOf 3 s).starved = true := by
      simp only [Fin.exists_fin_succ, Fin.exists_fin_zero, or_false]
      exact Iff.rfl
    rw [this]
    tauto

/-- The two voices formed, whole (R142). -/
theorem formVoices_spec (outputs : StreamOutputs) (s : State) :
    ∃ n, formVoices outputs s = { s with
        voices := Vector.ofFn fun v => (formVoice s.queues outputs s.voices[v]).voice, notices := n }
      ∧ Told (fun x => x = Source.voiceSwitch ∧ ∃ v : VoiceId,
          (formVoice s.queues outputs s.voices[v]).switch ≠ none) s.notices n := by
  refine ⟨(formVoices outputs s).notices, ?_, ?_⟩
  · unfold formVoices
    rw [formVoiceAt_fields 1, formVoiceAt_fields 0]
    congr 1
    ext i hi : 1
    match i, hi with
    | 0, _ => simp
    | 1, _ => simp
  · have h := (formVoiceAt_told 0 outputs s).trans (formVoiceAt_told 1 outputs (formVoiceAt 0 outputs s))
    refine h.congr fun x => ?_
    have e : (∃ v : VoiceId, (formVoice s.queues outputs s.voices[v]).switch ≠ none)
        ↔ (formVoice s.queues outputs s.voices[(0 : VoiceId)]).switch ≠ none
          ∨ (formVoice s.queues outputs s.voices[(1 : VoiceId)]).switch ≠ none := by
      simp only [Fin.exists_fin_succ, Fin.exists_fin_zero, or_false]
      exact Iff.rfl
    have hq : (formVoiceAt 0 outputs s).queues = s.queues := by rw [formVoiceAt_fields]
    have hv : (formVoiceAt 0 outputs s).voices[(1 : VoiceId)] = s.voices[(1 : VoiceId)] := by rw [formVoiceAt_fields]; simp
    rw [hq, hv, e]
    tauto

/-- The clamped samples, counted by their values (R128, R130). -/
theorem clampedIn_eq (n : Nat) (terms : List Term) :
    clampedIn n terms = ((List.range n).filter fun i =>
      (gainedSum (terms.map fun x => (x.samples, x.gain)) i + 2048) / 4096 < -32768
        ∨ 32767 < (gainedSum (terms.map fun x => (x.samples, x.gain)) i + 2048) / 4096).length := by
  unfold clampedIn
  rw [List.countP_eq_length_filter]
  congr 2
  funext i
  have : mixedSample terms i = (gainedSum (terms.map fun x => (x.samples, x.gain)) i + 2048) / 4096 := by
    simp only [mixedSample, roundHalfUp, accumulate, gainedSum, List.map_map]
    simp only [Function.comp_def]
    omega
  rw [this]
  generalize (gainedSum (terms.map fun x => (x.samples, x.gain)) i + 2048) / 4096 = m
  rw [Bool.eq_iff_iff]
  simp [isClamped, clampInt]
  omega


/-- The clamps that a sink of the block mixed by the banks of `s` counts. -/
def clampsNow (n : Nat) (j : SinkId) (terms : List Term) (s : State) : Nat :=
  if s.mix.active.mutes[j] then 0 else clampedIn n terms

/-- The clamp accounting of a sink, whole (R130). -/
theorem accountClamps_spec (n : Nat) (j : SinkId) (terms : List Term) (s : State) :
    ∃ m, accountClamps n j terms s = { s with
        mix := { s.mix with clampCount := s.mix.clampCount.set j (countedOn (clampsNow n j terms s) s.mix.clampCount[j]) },
        notices := m }
      ∧ Told (fun x => x = Source.sinkClamp ∧ clampsNow n j terms s ≠ 0 ∧ s.mix.clampReport[j] = true) s.notices m := by
  refine ⟨(accountClamps n j terms s).notices, ?_, ?_⟩
  · have h := noteClamps_mix j (clampsNow n j terms s) s
    rw [show noteClamps j (clampsNow n j terms s) s = accountClamps n j terms s from (accountClamps_eq n j terms s).symm] at h
    have hf := accountClamps_fields n j terms s
    rw [h] at hf
    exact hf
  · rw [accountClamps_eq]
    exact noteClamps_told j _ s

/-- UP's block, whole (R130, R132). -/
theorem formUp_spec (n : Nat) (src : Sources) (s : State) :
    ∃ m, formUp n src s = { s with
        mix := { s.mix with clampCount :=
          s.mix.clampCount.set 0 (countedOn (clampsNow n 0 (upTerms src s.mix.active) s) s.mix.clampCount[(0 : SinkId)]) },
        watches := s.watches.set 0 (s.watches[(0 : SinkId)].after (upBlock n src s)), notices := m }
      ∧ Told (fun x => (x = Source.sinkClamp ∧ clampsNow n 0 (upTerms src s.mix.active) s ≠ 0
          ∧ s.mix.clampReport[(0 : SinkId)] = true)
        ∨ (x = Source.watch ∧ s.watches[(0 : SinkId)].fired = false
          ∧ (s.watches[(0 : SinkId)].after (upBlock n src s)).fired = true)) s.notices m := by
  obtain ⟨m, hm, tm⟩ := accountClamps_spec n 0 (upTerms src s.mix.active) s
  unfold formUp
  refine ⟨(handToWatch 0 (upBlock n src s) (accountClamps n 0 (upTerms src s.mix.active) s)).notices, ?_, ?_⟩
  · rw [handToWatch_fields, hm]; rfl
  · have h := handToWatch_told 0 (upBlock n src s) (accountClamps n 0 (upTerms src s.mix.active) s)
    rw [hm] at h ⊢
    exact tm.trans h

/-- An earbud sink's block, whole (R74, R130, R132). -/
theorem formEar_spec (n : Nat) (src : Sources) (k : SlotId) (s : State) (h : s.slots[k].state = .streaming) :
    ∃ m, formEar n src k s = { s with
        mix := { s.mix with
          clampCount := s.mix.clampCount.set (earSink k)
            (countedOn (clampsNow n (earSink k) (earTerms src k s.mix.active) s) s.mix.clampCount[earSink k]) (by simp) },
        stores := s.stores.set k ((if 2 ≤ s.stores[k].length then s.stores[k].tail else s.stores[k])
          ++ [⟨s.call.blockNumber, sinkBlock n (earSink k) (earTerms src k s.mix.active) s⟩]),
        watches := s.watches.set (earSink k)
          (s.watches[earSink k].after (sinkBlock n (earSink k) (earTerms src k s.mix.active) s)), notices := m }
      ∧ Told (fun x => (x = Source.sinkClamp ∧ clampsNow n (earSink k) (earTerms src k s.mix.active) s ≠ 0
          ∧ s.mix.clampReport[earSink k] = true)
        ∨ (x = Source.downSlip ∧ 2 ≤ s.stores[k].length)
        ∨ (x = Source.watch ∧ s.watches[earSink k].fired = false
          ∧ (s.watches[earSink k].after (sinkBlock n (earSink k) (earTerms src k s.mix.active) s)).fired = true))
        s.notices m := by
  obtain ⟨m, hm, tm⟩ := accountClamps_spec n (earSink k) (earTerms src k s.mix.active) s
  unfold formEar
  rw [if_pos h]
  generalize sinkBlock n (earSink k) (earTerms src k s.mix.active) s = block
  have ha := appendToStore_told k ⟨s.call.blockNumber, block⟩ (accountClamps n (earSink k) (earTerms src k s.mix.active) s)
  have hw := handToWatch_told (earSink k) block
    (appendToStore k ⟨s.call.blockNumber, block⟩ (accountClamps n (earSink k) (earTerms src k s.mix.active) s))
  refine ⟨(handToWatch (earSink k) block
    (appendToStore k ⟨s.call.blockNumber, block⟩ (accountClamps n (earSink k) (earTerms src k s.mix.active) s))).notices, ?_, ?_⟩
  · rw [handToWatch_fields, appendToStore_fields, hm]
  · have e1 : (accountClamps n (earSink k) (earTerms src k s.mix.active) s).stores = s.stores := by rw [hm]
    have e2 : (accountClamps n (earSink k) (earTerms src k s.mix.active) s).notices = m := by rw [hm]
    have e3 : (appendToStore k ⟨s.call.blockNumber, block⟩
        (accountClamps n (earSink k) (earTerms src k s.mix.active) s)).watches = s.watches := by
      rw [appendToStore_fields, hm]
    rw [e1, e2] at ha
    rw [e3] at hw
    refine ((tm.trans ha).trans hw).congr fun x => ?_
    tauto

/-- Two slots have two sinks. -/
theorem earSink_inj {j k : SlotId} (h : j ≠ k) : ¬(earSink j).val = (earSink k).val := by
  intro e
  exact h (Fin.succ_injective _ (Fin.ext e))

/-- The earbud sinks `done` of a block have been formed from `s`, in some order. -/
def EarsFormed (n : Nat) (src : Sources) (done : SlotId → Prop) (s u : State) : Prop :=
  ∃ (counts : Vector Nat 5) (stores : Vector (List Block) 4) (watches : Vector Watch 5) (m : Notices),
    u = { s with mix := { s.mix with clampCount := counts }, stores := stores, watches := watches, notices := m }
      ∧ counts[(0 : SinkId)] = s.mix.clampCount[(0 : SinkId)] ∧ watches[(0 : SinkId)] = s.watches[(0 : SinkId)]
      ∧ (∀ k : SlotId, (done k ∧ s.slots[k].state = .streaming) →
        counts[earSink k]
            = countedOn (clampsNow n (earSink k) (earTerms src k s.mix.active) s) s.mix.clampCount[earSink k]
          ∧ stores[k] = (if 2 ≤ s.stores[k].length then s.stores[k].tail else s.stores[k])
            ++ [⟨s.call.blockNumber, sinkBlock n (earSink k) (earTerms src k s.mix.active) s⟩]
          ∧ watches[earSink k]
            = s.watches[earSink k].after (sinkBlock n (earSink k) (earTerms src k s.mix.active) s))
      ∧ (∀ k : SlotId, ¬(done k ∧ s.slots[k].state = .streaming) →
        counts[earSink k] = s.mix.clampCount[earSink k] ∧ stores[k] = s.stores[k] ∧ watches[earSink k] = s.watches[earSink k])
      ∧ Told (fun x => ∃ k : SlotId, (done k ∧ s.slots[k].state = .streaming)
        ∧ ((x = Source.sinkClamp ∧ clampsNow n (earSink k) (earTerms src k s.mix.active) s ≠ 0
            ∧ s.mix.clampReport[earSink k] = true)
          ∨ (x = Source.downSlip ∧ 2 ≤ s.stores[k].length)
          ∨ (x = Source.watch ∧ s.watches[earSink k].fired = false
            ∧ (s.watches[earSink k].after (sinkBlock n (earSink k) (earTerms src k s.mix.active) s)).fired = true)))
        s.notices m

/-- One more earbud sink formed. -/
theorem EarsFormed.next {n : Nat} {src : Sources} {done : SlotId → Prop} {s u : State} (k : SlotId) (hk : ¬done k)
    (h : EarsFormed n src done s u) : EarsFormed n src (fun j => done j ∨ j = k) s (formEar n src k u) := by
  obtain ⟨counts, stores, watches, m, rfl, hc0, hw0, hyes, hno, ht⟩ := h
  have hkn := hno k (fun e => hk e.1)
  by_cases hs : s.slots[k].state = .streaming
  · obtain ⟨m', he, tm⟩ := formEar_spec n src k
      { s with mix := { s.mix with clampCount := counts }, stores := stores, watches := watches, notices := m } hs
    dsimp only at he tm
    simp only [hkn.1, hkn.2.1, hkn.2.2] at he tm
    refine ⟨_, _, _, m', he, ?_, ?_, ?_, ?_, (ht.trans tm).congr fun x => ?_⟩
    · rw [← hc0]; simp [earSink]
    · rw [← hw0]; simp [earSink]
    · rintro j ⟨hd | rfl, hj⟩
      · have hne : k ≠ j := fun e => hk (e ▸ hd)
        have h1 : ¬k.val = j.val := fun e => hne (Fin.ext e)
        have h2 := earSink_inj hne
        simpa [Vector.getElem_set, h1, h2] using hyes j ⟨hd, hj⟩
      · simp [clampsNow, sinkBlock]
    · intro j hj
      have hne : k ≠ j := fun e => hj ⟨Or.inr e.symm, e ▸ hs⟩
      have h1 : ¬k.val = j.val := fun e => hne (Fin.ext e)
      have h2 := earSink_inj hne
      simpa [Vector.getElem_set, h1, h2] using hno j fun e => hj ⟨Or.inl e.1, e.2⟩
    · constructor
      · rintro (⟨j, ⟨hd, hj⟩, h⟩ | h)
        · exact ⟨j, ⟨Or.inl hd, hj⟩, h⟩
        · exact ⟨k, ⟨Or.inr rfl, hs⟩, h⟩
      · rintro ⟨j, ⟨hd | rfl, hj⟩, h⟩
        · exact Or.inl ⟨j, ⟨hd, hj⟩, h⟩
        · exact Or.inr h
  · have he : formEar n src k
        { s with mix := { s.mix with clampCount := counts }, stores := stores, watches := watches, notices := m }
        = { s with mix := { s.mix with clampCount := counts }, stores := stores, watches := watches, notices := m } := by
      unfold formEar
      exact if_neg hs
    rw [he]
    have hd : ∀ j : SlotId, ((done j ∨ j = k) ∧ s.slots[j].state = .streaming) ↔ (done j ∧ s.slots[j].state = .streaming) := by
      intro j
      constructor
      · rintro ⟨hd | rfl, hj⟩
        · exact ⟨hd, hj⟩
        · exact absurd hj hs
      · rintro ⟨hd, hj⟩
        exact ⟨Or.inl hd, hj⟩
    refine ⟨counts, stores, watches, m, rfl, hc0, hw0, fun j hj => hyes j ((hd j).1 hj), fun j hj => hno j fun e => hj ((hd j).2 e),
      ht.congr fun x => ?_⟩
    simp only [hd]

/-- The four earbud sinks formed, whole. -/
theorem formEars_spec (n : Nat) (src : Sources) (s : State) :
    EarsFormed n src (fun _ => True) s (forEachSlot (formEar n src) s) := by
  have h0 : EarsFormed n src (fun _ => False) s s := by
    refine ⟨_, _, _, _, rfl, rfl, rfl, ?_, ?_, (Told.refl _).congr ?_⟩
    · rintro k ⟨h, -⟩; exact h.elim
    · intro k _; exact ⟨rfl, rfl, rfl⟩
    · intro x; simp
  have h := (((h0.next 0 (by simp)).next 1 (by simp)).next 2 (by simp)).next 3 (by simp)
  have e : (fun j : SlotId => (((False ∨ j = 0) ∨ j = 1) ∨ j = 2) ∨ j = 3) = fun _ => True := by
    funext j
    match j with
    | 0 => simp
    | 1 => simp
    | 2 => simp
    | 3 => simp
  rw [e] at h
  exact h


/-- A commit copied raises COMMIT_DONE (R125). -/
theorem commitAtBlock_told (s : State) :
    Told (fun x => x = Source.commitDone ∧ s.mix.commitPending = true) s.notices (commitAtBlock s).notices := by
  unfold commitAtBlock
  by_cases h : s.mix.commitPending = true
  · rw [if_pos h]
    exact (Told.occur Source.commitDone none 2 s.call.blockNumber s.notices (by decide)).congr fun x => by simp [h]
  · rw [if_neg h]
    exact (Told.refl _).congr fun x => by simp [h]

/-- The occurrence of a commit copied at a block (R125). -/
theorem commitAtBlock_record (s : State) (h : s.mix.commitPending = true) :
    (commitAtBlock s).notices.records[Source.commitDone]
      = ⟨true, saturatingSucc 255 s.notices.records[Source.commitDone].occurrences,
        s.notices.records[Source.commitDone].indexSet, 2, s.call.blockNumber⟩ := by
  unfold commitAtBlock
  rw [if_pos h]
  simp [raise, Notices.occur, settleAttention, SourceRecord.occur]

/-- What a block event does before it mixes. -/
theorem beforeMix_spec (s : State) :
    ∃ n, beforeMix s = { s with
        convs := Vector.ofFn fun k => (conversionOf k s).conv, queues := Vector.ofFn fun k => (conversionOf k s).queue,
        voices := Vector.ofFn fun v => (formVoice (Vector.ofFn fun k => (conversionOf k s).queue) (streamOutputs s) s.voices[v]).voice,
        mix := if s.mix.commitPending then s.mix.copied else s.mix, notices := n }
      ∧ Told (fun x => (x = Source.queueStarved ∧ ∃ k : SlotId, (conversionOf k s).starved = true)
        ∨ (x = Source.voiceSwitch ∧ ∃ v : VoiceId,
          (formVoice (Vector.ofFn fun k => (conversionOf k s).queue) (streamOutputs s) s.voices[v]).switch ≠ none)
        ∨ (x = Source.commitDone ∧ s.mix.commitPending = true)) s.notices n
      ∧ (s.mix.commitPending = true → n.records[Source.commitDone]
        = ⟨true, saturatingSucc 255 s.notices.records[Source.commitDone].occurrences,
          s.notices.records[Source.commitDone].indexSet, 2, s.call.blockNumber⟩) := by
  obtain ⟨n1, h1, t1⟩ := convertStreams_spec s
  obtain ⟨n2, h2, t2⟩ := formVoices_spec (streamOutputs s) (convertStreams s)
  have t3 := commitAtBlock_told (formVoices (streamOutputs s) (convertStreams s))
  have r3 := commitAtBlock_record (formVoices (streamOutputs s) (convertStreams s))
  rw [h1] at h2 t2
  dsimp only at h2 t2
  have hm : (formVoices (streamOutputs s) (convertStreams s)).mix = s.mix := by rw [h1, h2]
  have hc : (formVoices (streamOutputs s) (convertStreams s)).call = s.call := by rw [h1, h2]
  have hn : (formVoices (streamOutputs s) (convertStreams s)).notices = n2 := by rw [h1, h2]
  rw [hm, hn] at t3
  rw [hm, hn, hc] at r3
  refine ⟨(commitAtBlock (formVoices (streamOutputs s) (convertStreams s))).notices, ?_,
      ((t1.trans t2).trans t3).congr fun x => or_assoc, fun h => ?_⟩
  · unfold beforeMix
    rw [commitAtBlock_fields, h1, h2]
  · have e1 := (t1.2.2.2 Source.commitDone).2 (by rintro ⟨h, -⟩; exact absurd h (by decide))
    have e2 := (t2.2.2.2 Source.commitDone).2 (by rintro ⟨h, -⟩; exact absurd h (by decide))
    rw [r3 h, e2, e1]

/-- The clamps counted are those of the statements. -/
theorem clampsNow_eq {s u t : State} (j : SinkId) (terms : List Term) (h : u.mix.active = t.mix.active) :
    clampsNow s.blockSamples j terms u = clampsOfBlock j terms s t := by
  unfold clampsNow clampsOfBlock
  rw [clampedIn_eq, h]
  rfl

/-- A sink's block depends on the active bank alone. -/
theorem sinkBlock_congr {u t : State} (n : Nat) (j : SinkId) (terms : List Term) (h : u.mix.active = t.mix.active) :
    sinkBlock n j terms u = sinkBlock n j terms t := by
  unfold sinkBlock
  rw [h]

/-- The watch a block is handed to. -/
theorem handToWatch_watch (j : SinkId) (block : List Sample) (s : State) :
    (handToWatch j block s).watches[j] = s.watches[j].after block := by
  rw [handToWatch_fields]
  simp

/-- UP's final block is that of the statements. -/
theorem upBlock_eq {s u t : State} (src : Sources) (hc : u.call = s.call) (h : u.mix.active = t.mix.active) :
    upBlock s.blockSamples src u = upOfBlock src s t := by
  have hs : ∀ terms, sinkBlock s.blockSamples 0 terms u = sinkBlock s.call.rate.samples 0 terms t :=
    fun terms => sinkBlock_congr _ _ _ h
  unfold upBlock upOfBlock uplinkHeld
  rw [hc, h, hs]
  cases hcs : s.call.state <;> cases hr : s.call.resumeTo <;> simp [State.blockSamples]

/-- Three causes of four slots, sorted by cause. -/
theorem exists_and_cases {S a b c : SlotId → Prop} {x y z : Prop} :
    (∃ k : SlotId, S k ∧ ((x ∧ a k) ∨ (y ∧ b k) ∨ (z ∧ c k)))
      ↔ (x ∧ ∃ k : SlotId, S k ∧ a k) ∨ (y ∧ ∃ k : SlotId, S k ∧ b k) ∨ (z ∧ ∃ k : SlotId, S k ∧ c k) := by
  constructor
  · rintro ⟨k, hs, ⟨h, g⟩ | ⟨h, g⟩ | ⟨h, g⟩⟩
    · exact .inl ⟨h, k, hs, g⟩
    · exact .inr (.inl ⟨h, k, hs, g⟩)
    · exact .inr (.inr ⟨h, k, hs, g⟩)
  · rintro (⟨h, k, hs, g⟩ | ⟨h, k, hs, g⟩ | ⟨h, k, hs, g⟩)
    · exact ⟨k, hs, .inl ⟨h, g⟩⟩
    · exact ⟨k, hs, .inr (.inl ⟨h, g⟩)⟩
    · exact ⟨k, hs, .inr (.inr ⟨h, g⟩)⟩

/-- Causes gathered stage by stage, sorted by source. -/
theorem sort_causes {xq xv xc xk xd xw q v c k k' d w w' : Prop} :
    (((xq ∧ q) ∨ (xv ∧ v) ∨ (xc ∧ c)) ∨ ((xk ∧ k) ∨ (xw ∧ w))) ∨ ((xk ∧ k') ∨ (xd ∧ d) ∨ (xw ∧ w'))
      ↔ (xq ∧ q) ∨ (xv ∧ v) ∨ (xc ∧ c) ∨ (xk ∧ (k ∨ k')) ∨ (xd ∧ d) ∨ (xw ∧ (w ∨ w')) := by
  constructor
  · rintro ((((h | h | h) | (⟨a, b⟩ | ⟨a, b⟩)) | (⟨a, b⟩ | h | ⟨a, b⟩)))
    · exact .inl h
    · exact .inr (.inl h)
    · exact .inr (.inr (.inl h))
    · exact .inr (.inr (.inr (.inl ⟨a, .inl b⟩)))
    · exact .inr (.inr (.inr (.inr (.inr ⟨a, .inl b⟩))))
    · exact .inr (.inr (.inr (.inl ⟨a, .inr b⟩)))
    · exact .inr (.inr (.inr (.inr (.inl h))))
    · exact .inr (.inr (.inr (.inr (.inr ⟨a, .inr b⟩))))
  · rintro (h | h | h | ⟨a, b | b⟩ | h | ⟨a, b | b⟩)
    · exact .inl (.inl (.inl h))
    · exact .inl (.inl (.inr (.inl h)))
    · exact .inl (.inl (.inr (.inr h)))
    · exact .inl (.inr (.inl ⟨a, b⟩))
    · exact .inr (.inl ⟨a, b⟩)
    · exact .inr (.inr (.inl h))
    · exact .inl (.inr (.inr ⟨a, b⟩))
    · exact .inr (.inr (.inr ⟨a, b⟩))

/-- The causes of the notices of a block event, source by source (R74, R89, R125, R130, R144, R148). -/
def blockCauses (src : Sources) (s t : State) (x : SourceId) : Prop :=
  (x = Source.queueStarved ∧ ∃ k : SlotId, s.slots[k].state = .streaming
      ∧ (convertBlock s.call.rate.samples s.convs[k] s.queues[k]).starved = true)
    ∨ (x = Source.voiceSwitch ∧ ∃ v : VoiceId, (formVoice t.queues src.outputs s.voices[v]).switch ≠ none)
    ∨ (x = Source.commitDone ∧ s.mix.commitPending = true)
    ∨ (x = Source.sinkClamp ∧ ((clampsOfBlock 0 (upTerms src t.mix.active) s t ≠ 0 ∧ s.mix.clampReport[(0 : SinkId)] = true)
      ∨ ∃ k : SlotId, s.slots[k].state = .streaming ∧ clampsOfBlock (earSink k) (earTerms src k t.mix.active) s t ≠ 0
        ∧ s.mix.clampReport[earSink k] = true))
    ∨ (x = Source.downSlip ∧ ∃ k : SlotId, s.slots[k].state = .streaming ∧ 2 ≤ s.stores[k].length)
    ∨ (x = Source.watch ∧ ∃ j : SinkId, s.watches[j].fired = false ∧ t.watches[j].fired = true)

/-- What is raised by these causes is what the statements say is raised. -/
theorem Told.blockRaised {src : Sources} {s t : State} (h : Told (blockCauses src s t) s.notices t.notices)
    (r : s.mix.commitPending = true → t.notices.records[Source.commitDone]
      = ⟨true, saturatingSucc 255 s.notices.records[Source.commitDone].occurrences,
        s.notices.records[Source.commitDone].indexSet, 2, s.call.blockNumber⟩) : blockRaised src s t := by
  have only : ∀ (x : SourceId) (c : Prop), (blockCauses src s t x ↔ c) → raisedBy x (blockCodes x) c s t :=
    fun x c e => h.raised x _ rfl c e
  refine ⟨only Source.queueStarved _ ?_, only Source.voiceSwitch _ ?_, only Source.sinkClamp _ ?_, only Source.downSlip _ ?_,
    only Source.watch _ ?_, r, fun hp => (h.2.2.2 _).2 ?_, fun other ho => (h.2.2.2 _).2 ?_⟩
  · exact ⟨by rintro (⟨-, g⟩ | ⟨e, -⟩ | ⟨e, -⟩ | ⟨e, -⟩ | ⟨e, -⟩ | ⟨e, -⟩) <;> first | exact g | exact absurd e (by decide),
      fun g => .inl ⟨rfl, g⟩⟩
  · exact ⟨by rintro (⟨e, -⟩ | ⟨-, g⟩ | ⟨e, -⟩ | ⟨e, -⟩ | ⟨e, -⟩ | ⟨e, -⟩) <;> first | exact g | exact absurd e (by decide),
      fun g => .inr (.inl ⟨rfl, g⟩)⟩
  · exact ⟨by rintro (⟨e, -⟩ | ⟨e, -⟩ | ⟨e, -⟩ | ⟨-, g⟩ | ⟨e, -⟩ | ⟨e, -⟩) <;> first | exact g | exact absurd e (by decide),
      fun g => .inr (.inr (.inr (.inl ⟨rfl, g⟩)))⟩
  · exact ⟨by rintro (⟨e, -⟩ | ⟨e, -⟩ | ⟨e, -⟩ | ⟨e, -⟩ | ⟨-, g⟩ | ⟨e, -⟩) <;> first | exact g | exact absurd e (by decide),
      fun g => .inr (.inr (.inr (.inr (.inl ⟨rfl, g⟩))))⟩
  · exact ⟨by rintro (⟨e, -⟩ | ⟨e, -⟩ | ⟨e, -⟩ | ⟨e, -⟩ | ⟨e, -⟩ | ⟨-, g⟩) <;> first | exact g | exact absurd e (by decide),
      fun g => .inr (.inr (.inr (.inr (.inr ⟨rfl, g⟩))))⟩
  · rintro (⟨e, -⟩ | ⟨e, -⟩ | ⟨-, g⟩ | ⟨e, -⟩ | ⟨e, -⟩ | ⟨e, -⟩) <;>
      first | exact absurd e (by decide) | (rw [hp] at g; exact absurd g (by decide))
  · rintro (⟨rfl, -⟩ | ⟨rfl, -⟩ | ⟨rfl, -⟩ | ⟨rfl, -⟩ | ⟨rfl, -⟩ | ⟨rfl, -⟩) <;> exact ho (by decide)

/-- A block event does what the words of the statements say of it (R74, R118, R125, R127, R130, R132, R142, R147). -/
theorem formBlock_spec (down : List Sample) (s : State) : blockFormed down (blockUplink down s) s (formBlock down s) := by
  obtain ⟨n1, hb, t1, r1⟩ := beforeMix_spec s
  obtain ⟨n2, hu, t2⟩ := formUp_spec s.blockSamples (blockSources down s) (beforeMix s)
  obtain ⟨counts, stores, watches, n3, he, hc0, hw0, hyes, hno, t3⟩ :=
    formEars_spec s.blockSamples (blockSources down s) (formUp s.blockSamples (blockSources down s) (beforeMix s))
  have hcs : (convertStreams s).queues = (Vector.ofFn fun k => (conversionOf k s).queue)
      ∧ (convertStreams s).voices = s.voices := by
    obtain ⟨n, h, -⟩ := convertStreams_spec s
    rw [h]
    exact ⟨rfl, rfl⟩
  have hv0 : (blockSources down s).v0
        = (formVoice (Vector.ofFn fun k => (conversionOf k s).queue) (streamOutputs s) s.voices[0]).samples
      ∧ (blockSources down s).v1
        = (formVoice (Vector.ofFn fun k => (conversionOf k s).queue) (streamOutputs s) s.voices[1]).samples := by
    simp only [blockSources, hcs.1, hcs.2, and_self]
  have hout : (blockSources down s).outputs = streamOutputs s ∧ (blockSources down s).down = down := ⟨rfl, rfl⟩
  generalize hsrc : blockSources down s = src at *
  generalize hB : beforeMix s = B at *
  generalize hU : formUp s.blockSamples src B = U at *
  generalize hT : formBlock down s = t at *
  have hT' : t = advanceBlock (forEachSlot (formEar s.blockSamples src) U) := by
    rw [← hT, ← hU, ← hB, ← hsrc]; rfl
  rw [he] at hT'
  have hact : t.mix.active = if s.mix.commitPending then s.mix.shadow else s.mix.active := by
    rw [hT', hu, hb]
    cases s.mix.commitPending <;> rfl
  have hBact : B.mix.active = t.mix.active := by rw [hT', hu]; rfl
  have hUact : U.mix.active = t.mix.active := by rw [hT']; rfl
  have hUmix : U.mix.clampReport = s.mix.clampReport := by rw [hu, hb]; cases s.mix.commitPending <;> rfl
  have hUcount : ∀ k : SlotId, U.mix.clampCount[earSink k] = s.mix.clampCount[earSink k] := by
    intro k
    rw [hu, hb]
    have : ¬(0 : Nat) = (earSink k).val := by simp [earSink]
    cases s.mix.commitPending <;> simp [MixState.copied, this]
  have hUslots : U.slots = s.slots := by rw [hu, hb]
  have hUstores : U.stores = s.stores := by rw [hu, hb]
  have hUcall : U.call = s.call := by rw [hu, hb]
  have hUwatch : ∀ k : SlotId, U.watches[earSink k] = s.watches[earSink k] := by
    intro k
    rw [hu, hb]
    have : ¬(0 : Nat) = (earSink k).val := by simp [earSink]
    simp [this]
  have hBcall : B.call = s.call := by rw [hb]
  have hup : upBlock s.blockSamples src B = upOfBlock src s t := upBlock_eq src hBcall hBact
  have hear : ∀ k : SlotId, sinkBlock s.blockSamples (earSink k) (earTerms src k U.mix.active) U = earOfBlock src k s t := by
    intro k
    rw [hUact]
    exact sinkBlock_congr _ _ _ hUact
  have hclamp : ∀ k : SlotId, clampsNow s.blockSamples (earSink k) (earTerms src k U.mix.active) U
      = clampsOfBlock (earSink k) (earTerms src k t.mix.active) s t := by
    intro k
    rw [hUact]
    exact clampsNow_eq _ _ hUact
  have hclampUp : clampsNow s.blockSamples 0 (upTerms src B.mix.active) B = clampsOfBlock 0 (upTerms src t.mix.active) s t := by
    rw [hBact]
    exact clampsNow_eq _ _ hBact
  have hBcount : B.mix.clampCount = s.mix.clampCount ∧ B.mix.clampReport = s.mix.clampReport := by
    rw [hb]
    cases s.mix.commitPending <;> exact ⟨rfl, rfl⟩
  have hBwatch : B.watches = s.watches := by rw [hb]
  simp only [hclamp, hear, hUslots, hUstores, hUcall, hUwatch, hUcount, hUmix, true_and] at hyes hno t3
  rw [hclampUp, hup] at hu t2
  rw [hBcount.2, hBwatch] at t2
  have hq : t.queues = Vector.ofFn fun k => (conversionOf k s).queue := by rw [hT', hu, hb]; rfl
  have hv : t.convs = Vector.ofFn fun k => (conversionOf k s).conv := by rw [hT', hu, hb]; rfl
  have hn : t.notices = n3 := by rw [hT']; rfl
  have hUn : U.notices = n2 := by rw [hu]
  have hBn : B.notices = n1 := by rw [hb]
  have hw : t.watches = watches := by rw [hT']; rfl
  have hcc : t.mix.clampCount = counts := by rw [hT']; rfl
  have hst : t.stores = stores := by rw [hT']; rfl
  have hvo : t.voices = Vector.ofFn fun v => (formVoice t.queues (streamOutputs s) s.voices[v]).voice := by
    rw [hq, hT', hu, hb]; rfl
  have hconv : ∀ k : SlotId, s.slots[k].state = .streaming →
      conversionOf k s = convertBlock s.call.rate.samples s.convs[k] s.queues[k] := by
    intro k h
    unfold conversionOf
    rw [if_pos h]
    rfl
  have hstand : ∀ k : SlotId, s.slots[k].state ≠ .streaming → conversionOf k s = ⟨s.convs[k], s.queues[k], none, false⟩ := by
    intro k h
    unfold conversionOf
    rw [if_neg h]
  have hq' : ∀ k : SlotId, t.queues[k] = (conversionOf k s).queue := by intro k; rw [hq]; simp
  have hv' : ∀ k : SlotId, t.convs[k] = (conversionOf k s).conv := by intro k; rw [hv]; simp
  have hw0' : t.watches[(0 : SinkId)] = s.watches[(0 : SinkId)].after (upOfBlock src s t) := by
    rw [hw, hw0, hu, hBwatch]; simp
  simp only [hUn, hBn, ← hn] at t2 t3
  have htold := (t1.trans t2).trans t3
  refine ⟨src, ⟨?_, ?_, ?_, ?_⟩, ?_, ?_, ?_, ?_, hact, ?_, ?_, ?_, ?_, ?_, ?_, htold.1, htold.2.1, htold.2.2.1, ?_, ?_, ?_, ?_, ?_,
    ?_, ?_⟩
  · exact hout.2
  · intro k
    rw [hout.1]
    by_cases h : s.slots[k].state = .streaming
    · rw [if_pos h, ← hconv k h]; simp [streamOutputs]
    · rw [if_neg h]; simp [streamOutputs, hstand k h]
  · rw [hq, hout.1]; exact hv0.1
  · rw [hq, hout.1]; exact hv0.2
  · unfold blockUplink
    rw [hsrc, hB]
    exact hup
  · intro k h
    obtain ⟨h1, h2, h3⟩ := hyes k h
    refine ⟨?_, ?_, ?_, ?_, ?_⟩
    · rw [hq' k, hconv k h]
    · rw [hv' k, hconv k h]
    · rw [hst]; exact h2
    · rw [hcc]; exact h1
    · rw [hw, h3, handToWatch_watch]
  · intro k h
    obtain ⟨h1, h2, h3⟩ := hno k h
    refine ⟨?_, ?_, ?_, ?_, ?_⟩
    · rw [hq' k, hstand k h]
    · rw [hv' k, hstand k h]
    · rw [hst]; exact h2
    · rw [hcc]; exact h1
    · rw [hw, h3]
  · intro v
    rw [hvo, hout.1]
    simp
  · rw [hT', hu, hb]; cases s.mix.commitPending <;> rfl
  · rw [hT', hu, hb]; cases h : s.mix.commitPending <;> simp [MixState.copied, advanceBlock, h]
  · rw [hT', hu, hb]; cases s.mix.commitPending <;> rfl
  · rw [hcc, hc0, hu, hBcount.1]; simp
  · unfold blockUplink
    rw [hsrc, hB, hup, handToWatch_watch]
    exact hw0'
  rotate_left
  all_goals (try (rw [hT', hu, hb]; rfl))
  have hstarved : (∃ k : SlotId, (conversionOf k s).starved = true)
      ↔ ∃ k : SlotId, s.slots[k].state = .streaming ∧ (convertBlock s.call.rate.samples s.convs[k] s.queues[k]).starved = true := by
    refine exists_congr fun k => ?_
    by_cases h : s.slots[k].state = .streaming
    · rw [hconv k h]; simp only [h, true_and]
    · rw [hstand k h]; simp only [h, false_and]; simp
  have hear' : ∀ k : SlotId, s.slots[k].state = .streaming →
      t.watches[earSink k] = s.watches[earSink k].after (earOfBlock src k s t) := fun k h => by rw [hw]; exact (hyes k h).2.2
  have hwatch : (∃ j : SinkId, s.watches[j].fired = false ∧ t.watches[j].fired = true)
      ↔ (s.watches[(0 : SinkId)].fired = false ∧ (s.watches[(0 : SinkId)].after (upOfBlock src s t)).fired = true)
        ∨ ∃ k : SlotId, s.slots[k].state = .streaming ∧ s.watches[earSink k].fired = false
          ∧ (s.watches[earSink k].after (earOfBlock src k s t)).fired = true := by
    rw [Fin.exists_fin_succ, hw0']
    refine or_congr Iff.rfl (exists_congr fun k => ?_)
    show (s.watches[earSink k].fired = false ∧ t.watches[earSink k].fired = true) ↔ _
    by_cases h : s.slots[k].state = .streaming
    · rw [hear' k h]; simp only [h, true_and]
    · rw [hw, (hno k h).2.2]; simp only [h, false_and, iff_false, not_and]; intro e; rw [e]; simp
  refine (htold.congr fun x => ?_).blockRaised fun h => ?_
  · unfold blockCauses
    rw [← hstarved, hwatch, hq, hout.1]
    rw [exists_and_cases (S := fun k => s.slots[k].state = .streaming)]
    exact sort_causes
  · have e2 := (t2.2.2.2 Source.commitDone).2 (by
      rintro (⟨e, -⟩ | ⟨e, -⟩) <;> exact absurd e (by decide))
    have e3 := (t3.2.2.2 Source.commitDone).2 (by
      rintro ⟨k, -, ⟨e, -⟩ | ⟨e, -⟩ | ⟨e, -⟩⟩ <;> exact absurd e (by decide))
    rw [e3, e2]
    exact r1 h

/-- The watch a block is handed to depends on the watches alone. -/
theorem handToWatch_congr {s u : State} (j : SinkId) (block : List Sample) (h : u.watches = s.watches) :
    (handToWatch j block u).watches[j] = (handToWatch j block s).watches[j] := by
  rw [handToWatch_watch, handToWatch_watch, h]

/-- What a block event does stands when the state before differs in the air, the port, CALL_STATE and such fields of the call as
the block does not read, and the state after in the call, the air and the port. -/
theorem blockFormed_transfer {down up : List Sample} {s s' t t' : State} (hb : blockFormed down up s' t')
    (h1 : s' = { s with call := s'.call, air := s'.air, port := s'.port, notices := s'.notices })
    (hr : s'.call.rate = s.call.rate ∧ s'.call.blockNumber = s.call.blockNumber)
    (hh : (s'.call.state = .held ∨ (s'.call.state = .lost ∧ s'.call.resumeTo = .held)) ↔ (s.call.state = .held
        ∨ (s.call.state = .lost ∧ s.call.resumeTo = .held)))
    (hn : s'.notices.route = s.notices.route ∧ s'.notices.classes = s.notices.classes
        ∧ s'.notices.outstanding = s.notices.outstanding ∧ ∀ x, x ≠ Source.callState → s'.notices.records[x] = s.notices.records[x])
    (ht : t = { t' with call := t.call, air := t.air, port := t.port }) : blockFormed down up s t := by
  have hw : s'.watches = s.watches := by rw [h1]
  obtain ⟨src, hhas, hup, hst, hns, hvo, ha, hsh, hcp, hcr, hc0, hw0, hra, r1, r2, r3, e1, e2, e3, e4, e5, e6, e7⟩ := hb
  have hS : s'.slots = s.slots ∧ s'.convs = s.convs ∧ s'.queues = s.queues ∧ s'.stores = s.stores ∧ s'.mix = s.mix
      ∧ s'.voices = s.voices ∧ s'.roster = s.roster ∧ s'.pair = s.pair ∧ s'.keyUnit = s.keyUnit ∧ s'.control = s.control
      ∧ s'.draws = s.draws ∧ s'.pending = s.pending := by
    rw [h1]; exact ⟨rfl, rfl, rfl, rfl, rfl, rfl, rfl, rfl, rfl, rfl, rfl, rfl⟩
  obtain ⟨s1, s2, s3, s4, s5, s6, s7, s8, s9, s10, s11, s12⟩ := hS
  have hT : t.queues = t'.queues ∧ t.convs = t'.convs ∧ t.stores = t'.stores ∧ t.mix = t'.mix ∧ t.voices = t'.voices
      ∧ t.roster = t'.roster ∧ t.pair = t'.pair ∧ t.keyUnit = t'.keyUnit ∧ t.control = t'.control ∧ t.draws = t'.draws
      ∧ t.pending = t'.pending ∧ t.watches = t'.watches ∧ t.slots = t'.slots ∧ t.notices = t'.notices := by
    rw [ht]; exact ⟨rfl, rfl, rfl, rfl, rfl, rfl, rfl, rfl, rfl, rfl, rfl, rfl, rfl, rfl⟩
  obtain ⟨t1, t2, t3, t4, t5, t6, t7, t8, t9, t10, t11, t12, t13, t14⟩ := hT
  have hc' : ∀ j terms, clampsOfBlock j terms s t = clampsOfBlock j terms s' t' := by
    intro j terms; unfold clampsOfBlock; rw [t4, hr.1]
  have he' : ∀ k, earOfBlock src k s t = earOfBlock src k s' t' := by
    intro k; unfold earOfBlock; rw [t4, hr.1]; exact sinkBlock_congr _ _ _ (by rw [t4])
  refine ⟨src, ?_, ?_, ?_, ?_, ?_, ?_, ?_, ?_, ?_, ?_, ?_, ?_, ?_, ?_, ?_, ?_, ?_, ?_, ?_, ?_, ?_, ?_⟩
  · obtain ⟨b1, b2, b3, b4⟩ := hhas
    refine ⟨b1, ?_, ?_, ?_⟩
    · intro k; rw [b2 k, s1, s2, s3, hr.1]
    · rw [b3, t1, s6]
    · rw [b4, t1, s6]
  · rw [hup]
    unfold upOfBlock
    rw [hr.1]
    simp only [hh]
    split
    · rfl
    · rw [t4]; exact sinkBlock_congr _ _ _ (by rw [t4])
  · intro k hk
    obtain ⟨a1, a2, a3, a4, a5⟩ := hst k (by rw [s1]; exact hk)
    refine ⟨?_, ?_, ?_, ?_, ?_⟩
    · rw [t1, a1, s2, s3, hr.1]
    · rw [t2, a2, s2, s3, hr.1]
    · rw [t3, a3, s4, hr.2, he']
    · rw [hc', t4, a4, s5]
    · rw [t12, a5, he']; exact handToWatch_congr _ _ hw
  · intro k hk
    obtain ⟨a1, a2, a3, a4, a5⟩ := hns k (by rw [s1]; exact hk)
    exact ⟨by rw [t1, a1, s3], by rw [t2, a2, s2], by rw [t3, a3, s4], by rw [t4, a4, s5], by rw [t12, a5, hw]⟩
  · intro v; rw [t5, t1, hvo v, s6]
  · rw [t4, ha, s5]
  · rw [t4, hsh, s5]
  · rw [t4, hcp]
  · rw [t4, hcr, s5]
  · rw [hc', t4, hc0, s5]
  · rw [t12, hw0]; exact handToWatch_congr _ _ hw
  · obtain ⟨a1, a2, a3, a4, a5, a6, a7, a8⟩ := hra
    have tr : ∀ (x codes) (c c' : Prop), x ≠ Source.callState → (c ↔ c') → raisedBy x codes c s' t' → raisedBy x codes c' s t := by
      intro x codes c c' hx hcc ⟨g1, g2⟩
      refine ⟨fun g => ?_, fun g => ?_⟩
      · rw [t14]; exact g1 (hcc.2 g)
      · rw [t14, g2 (fun g' => g (hcc.1 g')), hn.2.2.2 x hx]
    have hcd := hn.2.2.2 Source.commitDone (by decide)
    refine ⟨tr _ _ _ _ (by decide) ?_ a1, tr _ _ _ _ (by decide) ?_ a2, tr _ _ _ _ (by decide) ?_ a3,
        tr _ _ _ _ (by decide) ?_ a4, tr _ _ _ _ (by decide) ?_ a5, ?_, ?_, ?_⟩
    · rw [s1, s2, s3, hr.1]
    · rw [t1, s6]
    · simp only [hc', t4, s1, s5]
    · rw [s1, s4]
    · rw [t12, hw]
    · intro h; rw [t14, a6 (by rw [s5]; exact h), hcd]; congr 1; exact hr.2
    · intro h; rw [t14, a7 (by rw [s5]; exact h), hcd]
    · intro o ho; rw [t14, a8 o ho, hn.2.2.2 o (by rintro rfl; exact ho (by decide))]
  · rw [t14, r1, hn.1]
  · rw [t14, r2, hn.2.1]
  · rw [t14, r3, hn.2.2.1]
  · rw [t6, e1, s7]
  · rw [t7, e2, s8]
  · rw [t8, e3, s9]
  · rw [t13, e4, s1]
  · rw [t9, e5, s10]
  · rw [t10, e6, s11]
  · rw [t11, e7, s12]

end Sys2Proof.Machine
end

