-- ==== Sys2Proof/Laws/Ops.lean ====
section
/-! SUPPORT. What the shared operations do, each said once, in the words the statements use. -/

namespace Sys2Proof.Machine

open Sys2Proof

/-! ### Arithmetic and operand forms -/

/-- A saturating count does not pass its limit. -/
theorem saturatingSucc_le {limit n : Nat} (h : n ≤ limit) : saturatingSucc limit n ≤ limit := by
  unfold saturatingSucc; split <;> omega

/-- A clamped number lies in its range. -/
theorem clampNat_mem {low high : Nat} (h : low ≤ high) (n : Nat) : low ≤ clampNat low high n ∧ clampNat low high n ≤ high := by
  unfold clampNat; omega

/-- A byte that is an index stands for it. -/
theorem indexOfByte_ofNat (n : Nat) (i : Fin n) (hn : n ≤ 256) : indexOfByte n (BitVec.ofNat 8 i) = some i := by
  unfold indexOfByte
  have : (BitVec.ofNat 8 i.val).toNat = i := by simp; omega
  simp [this]

/-- A byte outside the range is no index. -/
theorem indexOfByte_of_le {n : Nat} {b : Byte} (h : n ≤ b.toNat) : indexOfByte n b = none := by
  simp [indexOfByte]; omega

/-- The four bytes of a 32-bit number are its four slices, the lowest first. -/
theorem bytes4_toNat (v : Count32) :
    bytes4 v.toNat = [v.extractLsb' 0 8, v.extractLsb' 8 8, v.extractLsb' 16 8, v.extractLsb' 24 8] := by
  simp only [bytes4, List.cons.injEq, and_true]
  refine ⟨?_, ?_, ?_, ?_⟩ <;> (apply BitVec.eq_of_toNat_eq; simp [Nat.shiftRight_eq_div_pow])

/-! ### Notices -/

/-- The attention level says what R168 says. -/
theorem attentionLevel_iff (n : Notices) : attentionLevel n = true ↔ attentionDue n.records n.route n.classes := by
  simp [attentionLevel, attentionDue]

/-- Settling the line changes the line alone, to what is due. -/
theorem settleAttention_spec (n : Notices) :
    (settleAttention n).records = n.records ∧ (settleAttention n).route = n.route ∧ (settleAttention n).classes = n.classes
      ∧ (settleAttention n).outstanding = n.outstanding
      ∧ ((settleAttention n).atn = true ↔ attentionDue n.records n.route n.classes) :=
  ⟨rfl, rfl, rfl, rfl, attentionLevel_iff n⟩

/-- What an occurrence does, whole (R160, R168). -/
theorem occur_spec (src : SourceId) (index : Option Nat) (code : Byte) (value : Count32) (n : Notices) :
    (n.occur src index code value).records = n.records.set src (n.records[src].occur index code value)
      ∧ (n.occur src index code value).route = n.route ∧ (n.occur src index code value).classes = n.classes
      ∧ (n.occur src index code value).outstanding = n.outstanding
      ∧ ((n.occur src index code value).atn = true
        ↔ attentionDue (n.occur src index code value).records n.route n.classes) := by
  refine ⟨rfl, rfl, rfl, rfl, ?_⟩
  unfold Notices.occur
  exact attentionLevel_iff _

/-- The making of a report does what R164 says. -/
theorem makeReport_spec (c : ClassId) (n : Notices) : reportMade c n (makeReport c n) := by
  refine ⟨?_, rfl, rfl, rfl, rfl⟩
  intro src
  simp [makeReport, reportedRecords, SourceRecord.reported]

/-- A class is eligible exactly when R164 says so. -/
theorem eligible_iff (c : ClassId) (n : Notices) :
    eligible c n = true
      ↔ n.classes[c].reportEnabled = true ∧ reportedSources c n ≠ [] ∧ n.outstanding[c] = none := by
  simp [eligible, reportedSources, assertedIn, and_assoc]

/-! ### The line CRDY -/

/-- Settling CRDY changes the line alone, to the level of R170. -/
theorem settleReady_spec (c : ControlPort) :
    settleReady c = { c with ready := readyAt (heldBytes c.goodFrames c.openFrame) c.ready } := rfl

/-! ### Time -/

/-- Time passes until a moment, or has passed it. -/
theorem passUntil_spec (t : Tick) (a : AirState) :
    passUntil t a = { a with timeBase := if (a.timeBase - t).toNat < 2 ^ 31 then a.timeBase else t } := by
  unfold passUntil timeReached
  split <;> simp_all

/-! ### The Call Port -/

/-- A word driven stands in the call's place alone (R152). -/
theorem drivenAt_eq (p : WordPosition) (w : BitVec 16) : drivenAt p w = callPlace p w := by cases p <;> rfl

/-- Whether a spacing is good, by the table of R153. -/
theorem goodSpacing_iff (r : CallRate) (n : Nat) : goodSpacing r n = true ↔ spacingIsGood r n := by
  unfold goodSpacing
  rw [Bool.and_eq_true, decide_eq_true_iff, decide_eq_true_iff]
  cases r <;> simp [spacingIsGood, CallRate.period]

/-! ### Pairing, slots and voices -/

/-- A handshake's end leaves the use of the slot that the statements name. -/
theorem afterHandshake_eq (use : SlotUse) : use.afterHandshake = useAfterHandshake use := by cases use <;> rfl

/-- The failure of a pairing does what R47 says, and lets no time pass. -/
theorem failPairing_spec (reason : FailReason) (s : State) : pairingFailed reason s (failPairing reason s) := by
  cases h : s.pair.reservedEntry <;>
    simp [failPairing, pairEvent, endHandshake, releaseReservation, h, raise, setUse, State.setPair, State.setEntry,
      PairContext.cleared, KeyUnit.discard, afterHandshake_eq]

/-- The same after time has passed to an offset into the slot. -/
theorem failPairing_after (offset : Tick) (reason : FailReason) (s : State) :
    pairingFailedAt (timeFrom offset s.air) reason s (failPairing reason (passToOffset offset s)) := by
  have h : passToOffset offset s = { s with air := { s.air with timeBase := timeFrom offset s.air } } := by
    unfold passToOffset passUntil timeReached timeFrom
    split <;> rename_i h <;> simp at h <;> simp [h]
  rw [h]
  exact failPairing_spec reason _

/-- A slot's becoming FREE does what R59 says. -/
theorem releaseSlot_eq (k : SlotId) (s : State) : releaseSlot k s = slotFreed k s := by
  cases h : s.slots[k].rosterIndex
  · simp only [releaseSlot, releaseEntry, slotFreed, State.setSlot, h]
  · simp only [releaseSlot, slotFreed, h]
    rfl

/-- The freeing of a slot that does not complete a closing is its becoming FREE alone (R14, R59). -/
theorem freeSlot_of_not_completes {k : SlotId} {s : State} (h : ¬completesClosing k s) : freeSlot k s = slotFreed k s := by
  rw [freeSlot, releaseSlot_eq, settleClosing]
  rw [if_neg]
  rintro ⟨hc, hf⟩
  refine h ⟨hc, fun j hj => ?_⟩
  have := List.all_eq_true.1 hf j (List.mem_finRange j)
  have hne : ¬k.val = j.val := fun e => hj (Fin.ext e.symm)
  simpa [slotFreed, Vector.getElem_set, hne] using this

/-- The removal of a member does what R139 says. -/
theorem remove_eq (k : SlotId) (v : Voice) : (v.remove k).1 = voiceWithout k v := by
  by_cases h : v.left = some k ∨ v.right = some k ∨ v.mono = some k
  · have hm : v.hasMember k = true := by rcases h with h | h | h <;> simp [Voice.hasMember, h]
    have ha : (v.without k).anyMember = remainingMember k v := rfl
    simp only [Voice.remove, hm, if_true, ha, voiceWithout, if_pos h]
    cases hr : remainingMember k v with
    | none => simp [Voice.withoutWinner, Voice.without]
    | some m =>
      by_cases hw : v.winner = some k <;> simp [hw, Voice.withWinner, Voice.without]
  · have hm : v.hasMember k = false := by
      simp only [not_or] at h
      simp [Voice.hasMember, h.1, h.2.1, h.2.2]
    simp [Voice.remove, hm, voiceWithout, h]

/-- A switch's notice reaches nothing but the notices. -/
theorem raiseSwitch_fields (i : VoiceId) (code : Option Byte) (s : State) :
    raiseSwitch i code s = { s with notices := (raiseSwitch i code s).notices } := by
  cases code <;> rfl

/-- The voices once slot `k` has been removed from its voice (R139). -/
theorem removeMember_voices (k : SlotId) (s : State) (v : VoiceId) :
    (removeMember k s).voices[v] = voiceWithout k s.voices[v] := by
  have h0 : ∀ (i : VoiceId) (u : State),
      (removeFromVoice i k u).voices = u.voices.set i (voiceWithout k u.voices[i]) := by
    intro i u
    rw [removeFromVoice, raiseSwitch_fields]
    simp [remove_eq]
  rw [removeMember, h0, h0]
  match v with
  | 0 => simp
  | 1 => simp

/-- The removal of a slot from its voice reaches the voices and the notices alone (R139). -/
theorem removeMember_fields (k : SlotId) (s : State) :
    removeMember k s = { s with voices := (removeMember k s).voices, notices := (removeMember k s).notices } := by
  have h0 : ∀ (i : VoiceId) (u : State), removeFromVoice i k u
      = { u with voices := (removeFromVoice i k u).voices, notices := (removeFromVoice i k u).notices } := by
    intro i u
    rw [removeFromVoice, raiseSwitch_fields]
    rfl
  rw [removeMember, h0, h0 0]

/-- What leaving STREAMING does to the stream, the voices and the slot (R66, R93, R101, R139). -/
theorem leaveStreaming_spec (k : SlotId) (s : State) :
    (leaveStreaming k s).queues = s.queues.set k s.queues[k].flush
      ∧ (leaveStreaming k s).convs = s.convs.set k s.convs[k].leaveStreaming
      ∧ (leaveStreaming k s).stores = s.stores.set k []
      ∧ (leaveStreaming k s).slots = s.slots.set k { s.slots[k] with lastSent := none, retryCandidate := false }
      ∧ (leaveStreaming k s).roster = s.roster
      ∧ (∀ v : VoiceId, (leaveStreaming k s).voices[v] = voiceWithout k s.voices[v])
      ∧ restStands s (leaveStreaming k s) := by
  refine ⟨?_, ?_, ?_, ?_, ?_, fun v => ?_, ?_⟩
  all_goals unfold leaveStreaming
  case refine_6 => rw [removeMember_voices]; simp
  all_goals (rw [removeMember_fields]; simp [restStands])

/-! ### The turns of pairing and the sources of sinks -/

/-- A slot is in its second half exactly when R34's 2,000 ticks have passed. -/
theorem secondHalf_iff (s : State) : secondHalf s.air = true ↔ inSecondHalf s := by
  simp [secondHalf, timeReached, inSecondHalf]

/-- No frame of a turn is taken in its first half (R34). -/
theorem inTurn_of_not_half {began : PairState} {h : AirHeader} {s : State} (hn : ¬inSecondHalf s) : inTurn began h s = false := by
  rw [← secondHalf_iff] at hn
  simp [inTurn, hn]

/-- A frame of a turn is taken from the partner where R34 says. -/
theorem takenFromPartner_iff (st : PairState) (h : AirHeader) (s : State) :
    takenFromPartner st h s = true ↔ partnerTurn st h s ∧ s.pair.state = st := by
  simp only [takenFromPartner, inTurn, fromPartner, Bool.and_eq_true, secondHalf_iff, beq_iff_eq, partnerTurn]
  cases s.pair.partner <;> simp [Candidate.address]; tauto

/-- A CONFIRM or a REJECT is taken where R34 says. -/
theorem wordTaken_iff (h : AirHeader) (s : State) :
    wordTaken h s = true
      ↔ (partnerTurn .keying h s ∨ partnerTurn .compare h s) ∧ (s.pair.state = .keying ∨ s.pair.state = .compare) := by
  simp only [wordTaken, inTurn, fromPartner, Bool.and_eq_true, Bool.or_eq_true, secondHalf_iff, beq_iff_eq, partnerTurn]
  cases s.pair.partner <;> cases s.pair.state <;> simp [Candidate.address, PairState.awaitsWord] <;> tauto

/-- A frame comes from a slot's earbud where R56 says. -/
theorem fromSlotEarbud_iff (k : SlotId) (h : AirHeader) (s : State) : fromSlotEarbud k h s = true ↔ fromEarbud k h s := by
  simp only [fromSlotEarbud, slotAddress, slotContents, fromEarbud, Bool.and_eq_true, beq_iff_eq]
  cases s.slots[k].rosterIndex <;> simp

/-- Time passes to the second half of the turn, or has passed it. -/
theorem passToOffset_eq (offset : Tick) (s : State) :
    passToOffset offset s = { s with
      air := { s.air with
        timeBase := if (s.air.timeBase - (s.air.anchor + offset)).toNat < 2 ^ 31 then s.air.timeBase
          else s.air.anchor + offset } } := by
  unfold passToOffset
  rw [passUntil_spec]

/-- The counts of the pairing context at the end of an interval, each said once (R39, R41, R45, R48). -/
theorem PairContext.endInterval_spec (use : SlotUse) (p : PairContext) :
    (p.endInterval use).windowCount = (if p.state = .idle then p.windowCount else saturatingSucc (100 * p.window) p.windowCount)
      ∧ (p.endInterval use).windowEnded = (if p.state = .idle then p.windowEnded
        else decide (100 * p.window ≤ (p.endInterval use).windowCount))
      ∧ (p.endInterval use).turnsWaited = (if p.endPending = none ∧ use = .turn .offered false
        then saturatingSucc 4 p.turnsWaited else p.turnsWaited)
      ∧ (p.endInterval use).compareCount = (if p.state = .compare ∧ p.endPending = none
        then saturatingSucc 3000 p.compareCount else p.compareCount) := by
  unfold PairContext.endInterval PairContext.countWindow PairContext.countWaits PairContext.countTurn
  by_cases h1 : p.endPending = none <;> by_cases h2 : use = .turn .offered false <;> cases h3 : p.state <;> simp [h1, h2, h3]

/-- The terms of UP are its sources present, each with its gain (R127). -/
theorem upTerms_map (src : Sources) (bank : Bank) :
    (upTerms src bank).map (fun t => (t.samples, t.gain))
      = [(src.v0, bank.up.v0), (src.v1, bank.up.v1), (some src.down, bank.up.down)].filterMap
        (fun x => x.1.map fun samples => (samples, x.2)) := by
  unfold upTerms
  cases src.v0 <;> cases src.v1 <;> rfl

/-- The terms of an earbud sink are its sources present, each with its gain (R127). -/
theorem earTerms_map (src : Sources) (k : SlotId) (bank : Bank) :
    (earTerms src k bank).map (fun t => (t.samples, t.gain))
      = [(src.v0, bank.ear[k].v0), (src.v1, bank.ear[k].v1), (some src.down, bank.ear[k].down),
          (src.outputs[k], bank.ear[k].own)].filterMap (fun x => x.1.map fun samples => (samples, x.2)) := by
  unfold earTerms
  cases src.v0 <;> cases src.v1 <;> cases src.outputs[k] <;> rfl

/-! ### Arrivals -/

/-- A vector reads at an index as it was last set there. -/
theorem set_get {α : Type} {n : Nat} (v : Vector α n) (k : Fin n) (x : α) : (v.set k x)[k] = x := by simp

/-- The converter record once an accepted arrival has been offered to the drift tracker (R102, R103). -/
def Converter.offered (e : QueueEntry) (interval : Count32) (c : Converter) : Converter :=
  match pointOf e with
  | some p => c.givePoint interval p
  | none => c

/-- An offer reaches the converter record alone (R102). -/
theorem offerPoint_eq (k : SlotId) (e : QueueEntry) (s : State) :
    offerPoint k e s = { s with convs := s.convs.set k (s.convs[k].offered e s.air.interval) } := by
  unfold offerPoint Converter.offered
  cases pointOf e <;> simp [State.setConv]

/-- The room made for an entry, whole (R86). -/
theorem makeRoom_eq (k : SlotId) (s : State) :
    makeRoom k s = { s with
      queues := s.queues.set k (if 8 ≤ s.queues[k].entries.length then
          { s.queues[k] with
            entries := s.queues[k].entries.tail
            stats := { s.queues[k].stats with overruns := bump s.queues[k].stats.overruns } }
        else s.queues[k])
      convs := s.convs.set k (if 8 ≤ s.queues[k].entries.length then s.convs[k].overrun else s.convs[k])
      notices := if 8 ≤ s.queues[k].entries.length
        then s.notices.occur Source.queueOverrun (some k) 1 (BitVec.ofNat 32 k) else s.notices } := by
  unfold makeRoom
  by_cases h : 8 ≤ s.queues[k].entries.length
  · rw [if_pos h, if_pos h, if_pos h, if_pos h]; rfl
  · rw [if_neg h, if_neg h, if_neg h, if_neg h]; simp

/-- A waiting queue at its start level enters PLAYING, and else nothing changes (R85, R91). -/
theorem startIfReady_eq (k : SlotId) (s : State) :
    startIfReady k s = { s with
      queues := s.queues.set k (if reachesStart s.queues[k] then { s.queues[k] with state := .playing } else s.queues[k])
      convs := s.convs.set k (if reachesStart s.queues[k] then { s.convs[k] with freshStartPending := true } else s.convs[k]) } := by
  unfold startIfReady
  by_cases h : reachesStart s.queues[k] = true
  · rw [if_pos h, if_pos h, if_pos h]; rfl
  · rw [if_neg h, if_neg h, if_neg h]; simp

/-- The queue once an accepted arrival has been appended, before it may start to play (R85, R86). -/
def RxQueue.appended (e : QueueEntry) (q : RxQueue) : RxQueue :=
  { q with
    entries := (if 8 ≤ q.entries.length then q.entries.tail else q.entries) ++ [e], quiet := 0, arrival := true,
    stats := { q.stats.accept e.retried with
      overruns := if 8 ≤ q.entries.length then bump q.stats.overruns else q.stats.overruns } }

/-- An accepted arrival, whole (R85, R86, R91, R102, R117). -/
theorem acceptArrival_eq (k : SlotId) (e : QueueEntry) (s : State) :
    acceptArrival k e s = { s with
      slots := s.slots.set k { s.slots[k] with lastAccepted := some e.sequence }
      queues := s.queues.set k (if reachesStart (s.queues[k].appended e)
        then { s.queues[k].appended e with state := .playing } else s.queues[k].appended e)
      convs := s.convs.set k
        (let c := s.convs[k].offered e s.air.interval
         let c' := if 8 ≤ s.queues[k].entries.length then c.overrun else c
         if reachesStart (s.queues[k].appended e) then { c' with freshStartPending := true } else c')
      notices := if 8 ≤ s.queues[k].entries.length
        then s.notices.occur Source.queueOverrun (some k) 1 (BitVec.ofNat 32 k) else s.notices } := by
  unfold acceptArrival
  rw [startIfReady_eq, offerPoint_eq, makeRoom_eq]
  by_cases h8 : 8 ≤ s.queues[k].entries.length <;>
    simp [-Fin.getElem_fin, set_get, appendEntry, noteArrival, RxQueue.appended, Stats.accept, h8]
end Sys2Proof.Machine
end

