-- ==== Sys2Proof/Laws/Conversion.lean ====
section
/-! SUPPORT. What the conversion of a block does, sample by sample, in the words the statements use. -/

namespace Sys2Proof.Machine

open Sys2Proof

/-- The samples of an entry are those R109 names. -/
theorem audio_eq (n : Nat) (e : QueueEntry) : e.audio n = entrySound n e := rfl

/-- The starving of a queue is what R89 and R113 say. -/
theorem starve_eq (r : Reader) : starve r = queueStarved r := by
  cases h : r.conv.current <;> simp [starve, finishCurrent, h, bump]

/-- The finishing of the current frame is what R88 and R109 say. -/
theorem finishCurrent_eq (r : Reader) : finishCurrent r = currentFinished r := by
  cases h : r.conv.current <;> simp [finishCurrent, h, bump]

/-- The advance of the read position is what R109 says. -/
theorem advance_eq (n step : Nat) (r : Reader) : advance n step r = positionAdvanced n step r := by
  unfold advance positionAdvanced
  dsimp only
  split
  · rfl
  · rw [finishCurrent_eq]
    cases r.conv.follower <;> simp

/-- The next frame is entered as R110 and R113 say. -/
theorem enterNext_spec (n : Nat) (r : Reader) :
    (r.conv.follower ≠ .none → enterNext n r = enterFrame n r.conv.follower r)
      ∧ (r.conv.follower = .none →
        (chooseNext n r = none → enterNext n r = queueStarved r)
        ∧ ∀ (f : InFrame) (chosen : Reader), chooseNext n r = some (f, chosen) → enterNext n r = enterFrame n f chosen) := by
  unfold enterNext
  refine ⟨fun h => ?_, fun h => ⟨fun hn => ?_, fun f chosen hc => ?_⟩⟩
  · split
    · contradiction
    · rfl
  · simp [h, hn, starve_eq]
  · simp [h, hc]

/-- The follower is chosen as R110 and R113 say. -/
theorem chooseFollower_spec (n : Nat) (r : Reader) :
    (chooseNext n r = none → chooseFollower n r = queueStarved r)
      ∧ ∀ (f : InFrame) (chosen : Reader), chooseNext n r = some (f, chosen) →
        chooseFollower n r = { chosen with conv := { chosen.conv with follower := f } } := by
  unfold chooseFollower
  refine ⟨fun hn => ?_, fun f chosen hc => ?_⟩
  · simp [hn, starve_eq]
  · simp [hc]

/-- The frames of a sample are made sure of as R110 and R113 say. -/
theorem readyFrames_spec (n : Nat) (r : Reader) : framesAtHand n r (readyFrames n r) := by
  refine ⟨if r.conv.current = .none then enterNext n r else r, fun h => if_neg h, fun h => ?_, fun h => ?_, fun h1 h2 h3 => ?_⟩
  · rw [if_pos h]; exact enterNext_spec n r
  · unfold readyFrames
    dsimp only
    rcases h with h | h | h <;> simp [h]
  · have : readyFrames n r = chooseFollower n (if r.conv.current = .none then enterNext n r else r) := by
      unfold readyFrames
      dsimp only
      rw [if_neg (by simp [h1]), if_neg (by omega), if_pos h3]
    rw [this]
    exact chooseFollower_spec n _

/-- Whether a sample takes one of a fill frame, as R116 says. -/
theorem takesFill_eq (n : Nat) (c : Converter) :
    takesFill n c = (isFillFrame c.current || (decide (n ≤ c.index + 1) && isFillFrame c.follower)) := by
  have h : decide (n ≤ c.index + 1) = !decide (c.index + 1 < n) := by by_cases h : c.index + 1 < n <;> simp [h]; omega
  unfold takesFill
  rw [h]
  by_cases h : c.index + 1 < n <;> cases c.current <;> cases c.follower <;> simp [h]

/-- Each output sample is formed as R109, R113 and R116 say. -/
theorem readSample_spec (n step : Nat) (r : Reader) : sampleFormed n step r (readSample n step r) := by
  refine ⟨fun h => by simp [readSample, h, Reader.push, concealmentSample, Sample.scaledDown],
    fun h => ⟨readyFrames n r, readyFrames_spec n r, fun hr => ?_, fun hr x0 x1 h0 h1 => ?_⟩⟩
  · simp [readSample, h, hr, Reader.push, concealmentSample, Sample.scaledDown]
  · have e0 : (currentAudio n (readyFrames n r)).getD (readyFrames n r).conv.index 0 = x0 := by
      rw [h0]; rfl
    have e1 : secondSample n (readyFrames n r) = x1 := by
      rw [h1]; rfl
    simp only [readSample, h, hr, e0, e1, advance_eq, takesFill_eq, Reader.push, Bool.or_assoc]
    rfl

/-- The fresh start of a block is what R114 says. -/
theorem blockBegun_eq (n step : Nat) (c : Converter) (q : RxQueue) :
    blockBegun n step c q
      = if c.freshStartPending then freshStart n ⟨{ c with appliedStep := step }, q, [], false, false⟩
        else ⟨{ c with appliedStep := step }, q, [], false, false⟩ := by
  unfold blockBegun freshStart
  split
  · rcases h : q.entries with _ | ⟨e, rest⟩ <;> simp [audio_eq, bump, h]
  · rfl

/-- One more sample is read after `i` of them. -/
theorem readSamples_succ (n step i : Nat) (r : Reader) :
    readSamples n step (i + 1) r = readSample n step (readSamples n step i r) := by
  induction i generalizing r with
  | zero => rfl
  | succ k ih => exact ih (readSample n step r)

/-! ### The output -/

/-- Entering a frame leaves the output. -/
theorem enterFrame_out (n : Nat) (f : InFrame) (r : Reader) : (enterFrame n f r).outReversed = r.outReversed := by
  cases f
  · rfl
  · unfold enterFrame; dsimp only; split <;> rfl
  · rfl

/-- The choice of a frame leaves the output. -/
theorem chooseNext_out {n : Nat} {r chosen : Reader} {f : InFrame} (h : chooseNext n r = some (f, chosen)) :
    chosen.outReversed = r.outReversed := by
  unfold chooseNext at h
  repeat' split at h
  all_goals first | contradiction | (cases h; rfl)

/-- The next frame is had with the output as it was. -/
theorem readyFrames_out (n : Nat) (r : Reader) : (readyFrames n r).outReversed = r.outReversed := by
  have entered : (if r.conv.current = .none then enterNext n r else r).outReversed = r.outReversed := by
    split
    · unfold enterNext
      repeat' split
      · rw [starve_eq]
      · rw [enterFrame_out, chooseNext_out (by assumption)]
      · rw [enterFrame_out]
    · rfl
  unfold readyFrames
  generalize (if r.conv.current = .none then enterNext n r else r) = r1 at entered
  dsimp only
  split
  · exact entered
  · split
    · exact entered
    · split
      · unfold chooseFollower
        split
        · rw [starve_eq]; exact entered
        · rename_i hc
          exact (chooseNext_out hc).trans entered
      · exact entered

/-- Each sample read is one more of the output. -/
theorem readSample_out (n step : Nat) (r : Reader) : ∃ x, (readSample n step r).outReversed = x :: r.outReversed := by
  unfold readSample
  dsimp only
  split
  · exact ⟨_, rfl⟩
  · split
    · exact ⟨_, congrArg (_ :: ·) (readyFrames_out n r)⟩
    · rw [advance_eq]
      unfold positionAdvanced
      dsimp only
      split
      · exact ⟨_, congrArg (_ :: ·) (readyFrames_out n r)⟩
      · split
        · exact ⟨_, congrArg (_ :: ·) (readyFrames_out n r)⟩
        · rw [enterFrame_out]
          exact ⟨_, congrArg (_ :: ·) (readyFrames_out n r)⟩

end Sys2Proof.Machine
end

