-- ==== Sys2Proof/Laws/PerInstr.lean ====
section
/-! SUPPORT. A statement about every command as syntax, one lemma per constructor. -/

namespace Sys2Proof.Laws

open Sys2Proof Sys2Proof.Machine

/-- Commands and messages agree: the request that a well-formed command takes spells that command again, and its body fits a frame
(R171, R173). -/
def RequestRoundTrip.Statement (c : Instr) : Prop :=
  wellFormed c = true → ∀ m : Message, messageOfInstr c = some m → instrOfMessage m = c ∧ m.body.length ≤ 256

/-- A command that takes no request says nothing of one. -/
theorem RequestRoundTrip_of_none {c : Instr} (h : messageOfInstr c = none) : RequestRoundTrip.Statement c := by
  intro _ m hm
  rw [h] at hm
  cases hm

/-- A command whose request's kind gives it back, and is well formed by that request's body, makes the round trip. -/
theorem RequestRoundTrip_of_kind {c : Instr} {m : Message} (h : messageOfInstr c = some m) (hi : instrOfMessage m = c)
    (hw : wellFormed c = bodyFits m.body) : RequestRoundTrip.Statement c := by
  intro hc m' hm
  rw [h] at hm
  cases hm
  rw [hw] at hc
  exact ⟨hi, by simpa [bodyFits] using hc⟩

theorem RequestRoundTrip.powerOnReset : RequestRoundTrip.Statement .powerOnReset :=
  RequestRoundTrip_of_none rfl

theorem RequestRoundTrip.hello (tag : Byte) (body : List Byte) : RequestRoundTrip.Statement (.hello tag body) :=
  RequestRoundTrip_of_kind rfl rfl rfl

theorem RequestRoundTrip.resetSoft (tag : Byte) (body : List Byte) : RequestRoundTrip.Statement (.resetSoft tag body) :=
  RequestRoundTrip_of_kind rfl rfl rfl

theorem RequestRoundTrip.softResetPerformed : RequestRoundTrip.Statement .softResetPerformed :=
  RequestRoundTrip_of_none rfl

theorem RequestRoundTrip.callOpen (tag : Byte) (body : List Byte) : RequestRoundTrip.Statement (.callOpen tag body) :=
  RequestRoundTrip_of_kind rfl rfl rfl

theorem RequestRoundTrip.callHold (tag : Byte) (body : List Byte) : RequestRoundTrip.Statement (.callHold tag body) :=
  RequestRoundTrip_of_kind rfl rfl rfl

theorem RequestRoundTrip.callResume (tag : Byte) (body : List Byte) : RequestRoundTrip.Statement (.callResume tag body) :=
  RequestRoundTrip_of_kind rfl rfl rfl

theorem RequestRoundTrip.callClose (tag : Byte) (body : List Byte) : RequestRoundTrip.Statement (.callClose tag body) :=
  RequestRoundTrip_of_kind rfl rfl rfl

theorem RequestRoundTrip.callGet (tag : Byte) (body : List Byte) : RequestRoundTrip.Statement (.callGet tag body) :=
  RequestRoundTrip_of_kind rfl rfl rfl

theorem RequestRoundTrip.rosterPut (tag : Byte) (body : List Byte) : RequestRoundTrip.Statement (.rosterPut tag body) :=
  RequestRoundTrip_of_kind rfl rfl rfl

theorem RequestRoundTrip.rosterGet (tag : Byte) (body : List Byte) : RequestRoundTrip.Statement (.rosterGet tag body) :=
  RequestRoundTrip_of_kind rfl rfl rfl

theorem RequestRoundTrip.rosterDrop (tag : Byte) (body : List Byte) : RequestRoundTrip.Statement (.rosterDrop tag body) :=
  RequestRoundTrip_of_kind rfl rfl rfl

theorem RequestRoundTrip.pairStart (tag : Byte) (body : List Byte) : RequestRoundTrip.Statement (.pairStart tag body) :=
  RequestRoundTrip_of_kind rfl rfl rfl

theorem RequestRoundTrip.pairPick (tag : Byte) (body : List Byte) : RequestRoundTrip.Statement (.pairPick tag body) :=
  RequestRoundTrip_of_kind rfl rfl rfl

theorem RequestRoundTrip.pairConfirm (tag : Byte) (body : List Byte) : RequestRoundTrip.Statement (.pairConfirm tag body) :=
  RequestRoundTrip_of_kind rfl rfl rfl

theorem RequestRoundTrip.pairCancel (tag : Byte) (body : List Byte) : RequestRoundTrip.Statement (.pairCancel tag body) :=
  RequestRoundTrip_of_kind rfl rfl rfl

theorem RequestRoundTrip.earJoin (tag : Byte) (body : List Byte) : RequestRoundTrip.Statement (.earJoin tag body) :=
  RequestRoundTrip_of_kind rfl rfl rfl

theorem RequestRoundTrip.earLeave (tag : Byte) (body : List Byte) : RequestRoundTrip.Statement (.earLeave tag body) :=
  RequestRoundTrip_of_kind rfl rfl rfl

theorem RequestRoundTrip.queueSet (tag : Byte) (body : List Byte) : RequestRoundTrip.Statement (.queueSet tag body) :=
  RequestRoundTrip_of_kind rfl rfl rfl

theorem RequestRoundTrip.mixSet (tag : Byte) (body : List Byte) : RequestRoundTrip.Statement (.mixSet tag body) :=
  RequestRoundTrip_of_kind rfl rfl rfl

theorem RequestRoundTrip.mixCommit (tag : Byte) (body : List Byte) : RequestRoundTrip.Statement (.mixCommit tag body) :=
  RequestRoundTrip_of_kind rfl rfl rfl

theorem RequestRoundTrip.mixGet (tag : Byte) (body : List Byte) : RequestRoundTrip.Statement (.mixGet tag body) :=
  RequestRoundTrip_of_kind rfl rfl rfl

theorem RequestRoundTrip.voiceSet (tag : Byte) (body : List Byte) : RequestRoundTrip.Statement (.voiceSet tag body) :=
  RequestRoundTrip_of_kind rfl rfl rfl

theorem RequestRoundTrip.watchSet (tag : Byte) (body : List Byte) : RequestRoundTrip.Statement (.watchSet tag body) :=
  RequestRoundTrip_of_kind rfl rfl rfl

theorem RequestRoundTrip.sinkSet (tag : Byte) (body : List Byte) : RequestRoundTrip.Statement (.sinkSet tag body) :=
  RequestRoundTrip_of_kind rfl rfl rfl

theorem RequestRoundTrip.statsGet (tag : Byte) (body : List Byte) : RequestRoundTrip.Statement (.statsGet tag body) :=
  RequestRoundTrip_of_kind rfl rfl rfl

theorem RequestRoundTrip.noticeRoute (tag : Byte) (body : List Byte) : RequestRoundTrip.Statement (.noticeRoute tag body) :=
  RequestRoundTrip_of_kind rfl rfl rfl

theorem RequestRoundTrip.noticeMask (tag : Byte) (body : List Byte) : RequestRoundTrip.Statement (.noticeMask tag body) :=
  RequestRoundTrip_of_kind rfl rfl rfl

theorem RequestRoundTrip.noticeAck (tag : Byte) (body : List Byte) : RequestRoundTrip.Statement (.noticeAck tag body) :=
  RequestRoundTrip_of_kind rfl rfl rfl

theorem RequestRoundTrip.noticePoll (tag : Byte) (body : List Byte) : RequestRoundTrip.Statement (.noticePoll tag body) :=
  RequestRoundTrip_of_kind rfl rfl rfl

theorem RequestRoundTrip.unknownKindRequest (kind : Byte) (tag : Byte) (body : List Byte) :
    RequestRoundTrip.Statement (.unknownKindRequest kind tag body) := by
  intro hc m hm
  cases hm
  simp only [wellFormed, Bool.and_eq_true, Bool.not_eq_true', isRequestKind, Bool.and_eq_false_iff,
    decide_eq_false_iff_not, bodyFits, decide_eq_true_eq] at hc
  refine ⟨?_, hc.2⟩
  unfold instrOfMessage
  split <;> first | rfl | (exfalso; simp only at *; omega)

theorem RequestRoundTrip.controlPortByte (elapsed : Tick) (byte : Byte) :
    RequestRoundTrip.Statement (.controlPortByte elapsed byte) :=
  RequestRoundTrip_of_none rfl

theorem RequestRoundTrip.byteTimeout (elapsed : Tick) : RequestRoundTrip.Statement (.byteTimeout elapsed) :=
  RequestRoundTrip_of_none rfl

theorem RequestRoundTrip.frameToRequest : RequestRoundTrip.Statement .frameToRequest :=
  RequestRoundTrip_of_none rfl

theorem RequestRoundTrip.transmitStart (hostReady : Bool) : RequestRoundTrip.Statement (.transmitStart hostReady) :=
  RequestRoundTrip_of_none rfl

theorem RequestRoundTrip.transmitDone : RequestRoundTrip.Statement .transmitDone :=
  RequestRoundTrip_of_none rfl

theorem RequestRoundTrip.airIntervalEnd : RequestRoundTrip.Statement .airIntervalEnd :=
  RequestRoundTrip_of_none rfl

theorem RequestRoundTrip.slotStart : RequestRoundTrip.Statement .slotStart :=
  RequestRoundTrip_of_none rfl

theorem RequestRoundTrip.ask (header : AirHeader) (declared : RawDeclared) (quality : Byte) :
    RequestRoundTrip.Statement (.ask header declared quality) :=
  RequestRoundTrip_of_none rfl

theorem RequestRoundTrip.accept (header : AirHeader) (earValue : PublicValue) :
    RequestRoundTrip.Statement (.accept header earValue) :=
  RequestRoundTrip_of_none rfl

theorem RequestRoundTrip.confirm (header : AirHeader) : RequestRoundTrip.Statement (.confirm header) :=
  RequestRoundTrip_of_none rfl

theorem RequestRoundTrip.reject (header : AirHeader) : RequestRoundTrip.Statement (.reject header) :=
  RequestRoundTrip_of_none rfl

theorem RequestRoundTrip.bound (header : AirHeader) : RequestRoundTrip.Statement (.bound header) :=
  RequestRoundTrip_of_none rfl

theorem RequestRoundTrip.joinAck (header : AirHeader) (accepts : Bool) (proof : Key) :
    RequestRoundTrip.Statement (.joinAck header accepts proof) :=
  RequestRoundTrip_of_none rfl

theorem RequestRoundTrip.leaveAck (header : AirHeader) : RequestRoundTrip.Statement (.leaveAck header) :=
  RequestRoundTrip_of_none rfl

theorem RequestRoundTrip.up (header : AirHeader) (frame : UpFrame) : RequestRoundTrip.Statement (.up header frame) :=
  RequestRoundTrip_of_none rfl

theorem RequestRoundTrip.pairTurnFirstHalfEnd : RequestRoundTrip.Statement .pairTurnFirstHalfEnd :=
  RequestRoundTrip_of_none rfl

theorem RequestRoundTrip.bindNoAnswer : RequestRoundTrip.Statement .bindNoAnswer :=
  RequestRoundTrip_of_none rfl

theorem RequestRoundTrip.candidateExpiry : RequestRoundTrip.Statement .candidateExpiry :=
  RequestRoundTrip_of_none rfl

theorem RequestRoundTrip.windowEnd : RequestRoundTrip.Statement .windowEnd :=
  RequestRoundTrip_of_none rfl

theorem RequestRoundTrip.offerTimeout : RequestRoundTrip.Statement .offerTimeout :=
  RequestRoundTrip_of_none rfl

theorem RequestRoundTrip.keyComputationDone : RequestRoundTrip.Statement .keyComputationDone :=
  RequestRoundTrip_of_none rfl

theorem RequestRoundTrip.compareTimeout : RequestRoundTrip.Statement .compareTimeout :=
  RequestRoundTrip_of_none rfl

theorem RequestRoundTrip.joinNoAnswer (slot : SlotId) : RequestRoundTrip.Statement (.joinNoAnswer slot) :=
  RequestRoundTrip_of_none rfl

theorem RequestRoundTrip.leaveUnanswered (slot : SlotId) : RequestRoundTrip.Statement (.leaveUnanswered slot) :=
  RequestRoundTrip_of_none rfl

theorem RequestRoundTrip.linkLoss (slot : SlotId) : RequestRoundTrip.Statement (.linkLoss slot) :=
  RequestRoundTrip_of_none rfl

theorem RequestRoundTrip.fillTimeout (slot : SlotId) : RequestRoundTrip.Statement (.fillTimeout slot) :=
  RequestRoundTrip_of_none rfl

theorem RequestRoundTrip.driftWindowClose (slot : SlotId) : RequestRoundTrip.Statement (.driftWindowClose slot) :=
  RequestRoundTrip_of_none rfl

theorem RequestRoundTrip.sync (elapsed : Tick) (firstWord : BitVec 16) (secondWord : BitVec 16) :
    RequestRoundTrip.Statement (.sync elapsed firstWord secondWord) :=
  RequestRoundTrip_of_none rfl

theorem RequestRoundTrip.syncLoss (elapsed : Tick) : RequestRoundTrip.Statement (.syncLoss elapsed) :=
  RequestRoundTrip_of_none rfl

theorem RequestRoundTrip.freeRunningBlockEvent (elapsed : Tick) :
    RequestRoundTrip.Statement (.freeRunningBlockEvent elapsed) :=
  RequestRoundTrip_of_none rfl

theorem RequestRoundTrip.lockTimeout (elapsed : Tick) : RequestRoundTrip.Statement (.lockTimeout elapsed) :=
  RequestRoundTrip_of_none rfl

end Sys2Proof.Laws
end

