-- ==== Sys2Proof/Laws/Requests.lean ====
section
/-! SUPPORT. The taking of a request, once for all requests (R173, R174). -/

namespace Sys2Proof.Machine

open Sys2Proof

/-- A request can be taken exactly when the statements' words say so. -/
theorem canTake_iff_takeable (m : Message) (s : State) : canTake m s.control = true ↔ takeable m s := by
  simp [canTake, takeable, and_assoc]

/-- The two queue updates of a taken request make one update. -/
theorem appendReply_dropRequest (m : Message) (s : State) :
    appendReply m (dropRequest s) = replied m.kind m.tag m.body s := rfl

/-- What the taking of a request does, when it can be taken: the answer's state with the request gone and the reply in. -/
theorem takeWith_of_takeable {replyKind : Byte} {m : Message} {answer : State → Answer} {s : State} (h : takeable m s) :
    takeWith replyKind m answer s
      = appendReply ⟨replyKind, m.tag, (answer (dropRequest s)).body⟩ (answer (dropRequest s)).state := by
  simp [takeWith, (canTake_iff_takeable m s).2 h]

/-- A request that cannot be taken waits. -/
theorem takeWith_of_not_takeable {replyKind : Byte} {m : Message} {answer : State → Answer} {s : State}
    (h : ¬takeable m s) : takeWith replyKind m answer s = s := by
  have : ¬canTake m s.control = true := fun h' => h ((canTake_iff_takeable m s).1 h')
  simp [takeWith, this]

/-- The taking of a request of a known kind, when it can be taken. -/
theorem takeRequest_of_takeable {kind tag : Byte} {body : List Byte} {answer : State → Answer} {s : State}
    (h : takeable ⟨kind, tag, body⟩ s) :
    takeRequest kind tag body answer s
      = appendReply ⟨kind + 0x80, tag, (answer (dropRequest s)).body⟩ (answer (dropRequest s)).state :=
  takeWith_of_takeable h

/-- With the reply queue full no request can be taken. -/
theorem not_takeable_of_full {m : Message} {s : State} (h : 4 ≤ s.control.replies.length) : ¬takeable m s := by
  intro h'
  have := h'.1
  omega

/-- A refusal leaves the state, and its body is the status alone. -/
@[simp] theorem refuse_state (st : Status) (s : State) : (refuse st s).state = s := rfl

@[simp] theorem refuse_body (st : Status) (s : State) : (refuse st s).body = [st.code] := rfl

@[simp] theorem answerOk_state (fields : List Byte) (s : State) : (answerOk fields s).state = s := rfl

@[simp] theorem answerOk_body (fields : List Byte) (s : State) : (answerOk fields s).body = 0 :: fields := rfl

@[simp] theorem answerClamped_state (clamped : Bool) (fields : List Byte) (s : State) :
    (answerClamped clamped fields s).state = s := rfl

@[simp] theorem answerClamped_body (clamped : Bool) (fields : List Byte) (s : State) :
    (answerClamped clamped fields s).body = (if clamped then 1 else 0) :: fields := by
  cases clamped <;> rfl

/-- The taking of a refused request, when it can be taken: the two queues change, and nothing else (R173). -/
theorem takeRequest_refused {kind tag : Byte} {body : List Byte} {answer : State → Answer} {s : State} {st : Status}
    (h : takeable ⟨kind, tag, body⟩ s) (hr : answer (dropRequest s) = refuse st (dropRequest s)) :
    takeRequest kind tag body answer s = replied (kind + 0x80) tag [st.code] s := by
  rw [takeRequest_of_takeable h, hr]; rfl

end Sys2Proof.Machine
end

