-- ==== Sys2Proof/Tests/Slice0.lean ====
section
/-! SUPPORT. Tests: ill-formed commands refused by WellFormed, frames and words spelt, small steps from the spec's worked examples,
and for every statement with hypotheses a witness that meets them, clause by clause at boundary values. -/

namespace Sys2Proof.Tests

open Sys2Proof Sys2Proof.Machine

/-! ### WellFormed -/

theorem test_long_body_is_ill_formed (body : List Byte) (h : body.length = 257) : wellFormed (.hello 0 body) = false := by
  simp [wellFormed, messageOfInstr, bodyFits, h]

theorem test_long_unknown_body_is_ill_formed (body : List Byte) (h : body.length = 257) :
    wellFormed (.unknownKindRequest 0x40 0 body) = false := by
  simp [wellFormed, bodyFits, h]

theorem test_longest_body_is_well_formed (body : List Byte) (h : body.length = 256) : wellFormed (.mixSet 0 body) = true := by
  simp [wellFormed, messageOfInstr, bodyFits, h]

theorem test_known_kind_is_no_unknown_kind :
    wellFormed (.unknownKindRequest 0x01 0 []) = false ∧ wellFormed (.unknownKindRequest 0x1C 0 []) = false
      ∧ wellFormed (.unknownKindRequest 0x00 0 []) = true ∧ wellFormed (.unknownKindRequest 0x1D 0 []) = true := by decide

/-! ### Decode: no word spells a command, a frame spells a request -/

theorem test_no_word_spells_a_command : decodeTableWord 8 1 = none ∧ decodeTableWord 0 0 = none := by decide

/-- CALL_OPEN at 16,000 Hz, SECOND, NORMAL, PORT, tag 7: the byte sum of 6, 0, 3, 7, 1, 1, 0, 1 is 19, and 256 − 19 is 0xED (Table
11.1, Table 11.2, R4). -/
theorem test_frame_of_call_open :
    Message.frame ⟨0x03, 7, [1, 1, 0, 1]⟩ = [0xC3, 6, 0, 0x03, 7, 1, 1, 0, 1, 0xED]
      ∧ (messageOfFrame [0xC3, 6, 0, 0x03, 7, 1, 1, 0, 1, 0xED]).map instrOfMessage = some (.callOpen 7 [1, 1, 0, 1]) := by
  decide

/-- One kind of each family of requests, by Table 11.2. -/
theorem test_kinds_spell_their_requests :
    instrOfMessage ⟨0x02, 1, []⟩ = .resetSoft 1 [] ∧ instrOfMessage ⟨0x09, 1, [2]⟩ = .rosterDrop 1 [2]
      ∧ instrOfMessage ⟨0x0B, 1, [2]⟩ = .pairPick 1 [2] ∧ instrOfMessage ⟨0x0F, 1, [2]⟩ = .earLeave 1 [2]
      ∧ instrOfMessage ⟨0x10, 1, [2]⟩ = .queueSet 1 [2] ∧ instrOfMessage ⟨0x13, 1, [2]⟩ = .mixGet 1 [2]
      ∧ instrOfMessage ⟨0x15, 1, [2]⟩ = .watchSet 1 [2] ∧ instrOfMessage ⟨0x17, 1, [2]⟩ = .statsGet 1 [2]
      ∧ instrOfMessage ⟨0x1A, 1, [2]⟩ = .noticeAck 1 [2] ∧ instrOfMessage ⟨0x1B, 1, []⟩ = .callGet 1 []
      ∧ instrOfMessage ⟨0x1C, 1, [2]⟩ = .noticePoll 1 [2] ∧ instrOfMessage ⟨0x1D, 1, []⟩ = .unknownKindRequest 0x1D 1 [] := by
  decide

/-! ### States the tests start from -/

/-- A LEFT earbud of set 1 with a microphone, every rate and clock class A. -/
def ear : Declared := ⟨5, .left 1, true, .all, .a⟩

/-- Its roster contents. -/
def held : Contents := ⟨ear, 9⟩

/-- Its candidate record. -/
def heard : Candidate := ⟨ear, 100, 1000⟩

/-- A call in a state, with nothing else changed from reset. -/
def inCall (c : CallState) : State := { State.reset with call := { CallRecord.reset with state := c } }

/-- Stream slot 0 of a LIVE call in a state, for the earbud of entry 0. -/
def withSlot (x : StreamSlot) : State :=
  { inCall .live with
    roster := State.reset.roster.set 0 (.inCall held)
    slots := State.reset.slots.set 0 { x with rosterIndex := some 0 } }

/-- The same with the call CLOSING. -/
def closingWith (x : StreamSlot) : State := { withSlot x with call := { CallRecord.reset with state := .closing } }

/-- A stream in its uplink slot, its queue in a state. -/
def streaming (q : RxQueue) (use : SlotUse) : State :=
  { withSlot { StreamSlot.reset with state := .streaming } with
    queues := State.reset.queues.set 0 q
    air := { AirState.reset with slot := some 1, use := use } }

/-- A queue entry of a sequence. -/
def entry (n : Sequence) : QueueEntry := ⟨n, 80 * n.zeroExtend 32, 0, 0, false, true, none⟩

/-- An UP without samples. -/
def upOf (n : Sequence) : UpFrame := ⟨n, 80 * n.zeroExtend 32, 1000000, true, false, none⟩

/-- A pairing context in a state with the earbud as partner, in a turn that began in it, at the start of its second half. -/
def pairing (st : PairState) : State :=
  { State.reset with
    roster := State.reset.roster.set 0 .reserved
    pair := { PairContext.reset with
      state := st, reservedEntry := some 0, candidates := [heard], partner := some heard, linkKey := some 9 }
    air := { AirState.reset with timeBase := 2000, slot := some 9, use := .turn st false } }

/-- The same one tick before its second half. -/
def firstHalf (st : PairState) : State := { pairing st with air := { (pairing st).air with timeBase := 1999 } }

/-- A frame header from the earbud to the part. -/
def fromEar : AirHeader := ⟨Config.partAddress, 5⟩

/-- A frame header from another earbud to the part. -/
def fromOther : AirHeader := ⟨Config.partAddress, 6⟩

/-- The port record in a state. -/
def porting (p : PortRecord) : State := { inCall .live with port := p }

/-- The next-state's value of a field, when there is one. -/
def after {α : Type} (o : Host.Outcome State Fault Refusal) (f : State → α) : Option α :=
  match o with
  | .next t => some (f t)
  | _ => none

/-! ### Small steps, their results from the spec's text -/

/-- "37,578.5 rounds to 37,579, and −150.5 rounds to −150" (00_scope.md 0.6). -/
theorem test_round_half_up : roundHalfUp 75157 2 = 37579 ∧ roundHalfUp (-301) 2 = -150 := by decide

/-- Slot 3 of interval 9,000 begins at 360,012,000 ticks (R55). -/
theorem test_anchor_of_slot : slotStartTime 9000 3 = 360012000 := by decide

/-- a = 7 and b = 8 give 8, and 1,001 and −2,000 give −499 (R142). -/
theorem test_mean_of_samples : meanSample 7 8 = 8 ∧ meanSample 1001 (-2000) = -499 := by decide

/-- Example 6.1: 64 points, ΔS 10,080, T 2,519,874 at 16,000 Hz and class B: measured 16,778,055, base step 16,777,425. -/
theorem test_drift_window_example :
    judgeWindow 250
        { Converter.starting 1678 160 with
          windowOpen := true, firstPoint := some ⟨0, 0⟩, lastPoint := some ⟨2519874, 10080⟩, pointCount := 64 }
      = .accepted 16778055 16778055 false
      ∧ steppedToward 16778055 16777216 = 16777425 := by decide

/-- Example 6.1: depth 5 and set point 3 give the applied step 16,777,489. -/
theorem test_applied_step_example :
    blockStep { Converter.reset with baseStep := 16777425 }
      { RxQueue.reset with entries := [entry 1, entry 2, entry 3, entry 4, entry 5] } = 16777489 := by decide

/-- Example 6.2: the outputs 1,100 and −350. -/
theorem test_interpolation_example :
    interpolate 1000 1300 5592405 = 1100 ∧ interpolate (-200) (-500) 8388608 = -350 := by decide

/-- Example 7.1: 38,000 clamps to 32,767; −404; 8,375. -/
theorem test_mix_examples :
    mixedBlock 1 [⟨[12000], 6144⟩, ⟨[20000], 4096⟩, ⟨[-3000], 0⟩] = [32767]
      ∧ clampedIn 1 [⟨[12000], 6144⟩, ⟨[20000], 4096⟩, ⟨[-3000], 0⟩] = 1
      ∧ mixedBlock 1 [⟨[-1234], 3000⟩, ⟨[500], 4096⟩] = [-404]
      ∧ mixedBlock 1 [⟨[8000], 4096⟩, ⟨[3000], 512⟩] = [8375] := by decide

/-- A candidate heard in interval 1,000 is still listed in 1,299 and removed at the start of 1,300 (R38). -/
theorem test_candidate_expiry :
    stillHeard 1299 heard = true ∧ stillHeard 1300 heard = false := by decide

/-- The peak of a block takes −32768 as 32,768, and 199 lies below the level 200 of a QUIET watch (R147, R148). -/
theorem test_peak : peakOf [3, -32768] = 32768 ∧ (⟨.quiet, 200, 100, 0, false⟩ : Watch).meets [199, -199] = true := by decide

/-- With the claimed edge at 64,640 a stamp of 64,480 is late, and 64,640 is not (R84). -/
theorem test_late :
    isLate { Converter.reset with edgeState := .moving, claimedEdge := 64640 } 64480 = true
      ∧ isLate { Converter.reset with edgeState := .moving, claimedEdge := 64640 } 64640 = false := by decide

/-- Sequence numbers: newer across the wrap, never newer than itself (00_scope.md 0.6). -/
theorem test_newer : newer 2 65535 = true ∧ newer 5 5 = false ∧ newer 32768 0 = false ∧ newer 32767 0 = true := by decide

/-- In SWAPPED order the first eight bits are the least significant byte (R152). -/
theorem test_byte_order : ByteOrder.swapped.word 0x1234 = 0x3412 ∧ ByteOrder.normal.word 0x1234 = 0x1234 := by decide

/-- CALL_CLOSE in IDLE is refused with BAD_STATE in a reply of kind 0x86 (R13, R173). -/
theorem test_close_in_idle :
    after (exec (.callClose 4 []) State.reset) (fun t => t.control.replies) = some [⟨0x86, 4, [3]⟩] := by decide

/-- A window of 200 is clamped to 120 and entry 0 reserved (R35). -/
theorem test_pair_start_clamps :
    after (exec (.pairStart 4 [200]) State.reset) (fun t => (t.control.replies, t.pair.state))
      = some ([⟨0x8A, 4, [1, 0, 120]⟩], .listen) := by decide

/-- NOTICE_ROUTE of an asserted source into a silent class lets ATN fall (R162, R168). -/
theorem test_route_settles_attention :
    after (exec (.noticeMask 1 [1, 0, 0]) { State.reset with notices := State.reset.notices.occur 2 none 1 0 })
      (fun t => t.notices.atn) = some false
      ∧ (State.reset.notices.occur 2 none 1 0).atn = true := by decide

/-- The byte 0xC3 begins a frame, and any other is dropped while hunting (R172). -/
theorem test_sync_byte :
    after (exec (.controlPortByte 40 0xC3) State.reset) (fun t => t.control.openFrame) = some [0xC3]
      ∧ after (exec (.controlPortByte 40 0xC2) State.reset) (fun t => t.control.openFrame) = some [] := by decide

/-- The lock event comes at the eighteenth sync: a reference, sixteen good spacings, and one more (R5, R153). -/
theorem test_lock_at_good_count_sixteen :
    after (exec (.sync 500 0xABCD 0)
        { inCall .opening with port := { PortRecord.reset with state := .hunting, reference := some 0, goodCount := 16 } })
      (fun t => (t.call.state, t.port.state, t.port.downGathering)) = some (.live, .synced, [0xABCD]) := by decide

set_option maxRecDepth 8192 in
/-- The first interval begins at the reset, and its slot 0 is the first to start (R53, R54). -/
theorem test_first_slot :
    after (exec .slotStart State.reset) (fun t => (t.air.slot, t.air.anchor)) = some (some 0, 0) := by decide

/-- One tick passes on an empty queue when nothing is due (log entry 1). -/
theorem test_idle_tick :
    after (step { State.reset with air := { AirState.reset with slot := some 0 } }) (fun t => t.air.timeBase) = some 1 := by
  decide

/-! ### Witnesses: for each statement with hypotheses, states and operands that meet them, clause by clause

Each theorem is named after its statement and lists the hypotheses of each of its clauses at values that meet them, at the ends of a
range where the clause has one. -/

/-- A state with another Control Port. -/
def atPort (c : ControlPort) : State := { State.reset with control := c }

/-- A state with a roster entry. -/
def withEntry (i : EntryId) (x : RosterEntry) (s : State) : State := { s with roster := s.roster.set i x }

/-- Another earbud's contents, with the same place as `held` when `same`. -/
def heldOther (same : Bool) : Contents := ⟨⟨6, if same then .left 1 else .right 1, true, .only8, .c⟩, 10⟩

/-- The context of `pairing` with some of its fields changed. -/
def pairWith (st : PairState) (f : PairContext → PairContext) : State := { pairing st with pair := f (pairing st).pair }

/-- The same in a turn that began with the ABANDON owed. -/
def abandoning (reason : FailReason) : State :=
  { pairWith .keying fun p => { p with endPending := some reason } with air := { AirState.reset with use := .turn .keying true } }

/-- From reset, with empty queues of requests and replies, every request can be taken: what each later witness of a request rests
on. -/
theorem test_every_request_can_be_taken (m : Message) (s : State) (h : s.control = ControlPort.reset) : takeable m s := by
  simp [takeable, h, ControlPort.reset]

theorem test_StepTakesFrontOrRunsByItself_witness :
    { State.reset with pending := [.hello 0 []] }.pending = .hello 0 [] :: []
      ∧ State.reset.pending = [] ∧ idleCommand State.reset = some .slotStart
      ∧ idleCommand { State.reset with air := { AirState.reset with slot := some 0 } } = none := by decide

theorem test_CommandsGoOnAndKeepQueue_witness : (⟨Config.partAddress + 1, 5⟩ : AirHeader).destination ≠ Config.partAddress := by
  show Config.partAddress + 1 ≠ Config.partAddress
  generalize Config.partAddress = a
  bv_omega

theorem test_ResetsLeaveResetValues_witness :
    (atPort { ControlPort.reset with softReset := .due }).control.softReset = .due := rfl

theorem test_WrongBodySizeIsRefused_witness :
    (wellFormed (.hello 0 [1]) = true ∧ messageOfInstr (.hello 0 [1]) = some ⟨1, 0, [1]⟩ ∧ isRequestKind 1 = true ∧ takeable ⟨1, 0, [1]⟩ State.reset
      ∧ bodySizeFits ⟨1, 0, [1]⟩ = false)
    ∧ (wellFormed (.noticePoll 0 []) = true ∧ messageOfInstr (.noticePoll 0 []) = some ⟨0x1C, 0, []⟩ ∧ isRequestKind 0x1C = true ∧ takeable ⟨0x1C, 0, []⟩ State.reset
      ∧ bodySizeFits ⟨0x1C, 0, []⟩ = false) := by decide

theorem test_TakenRequestIsAnsweredOnce_witness :
    messageOfInstr (.callClose 4 []) = some ⟨6, 4, []⟩
      ∧ (wellFormed (.callClose 4 []) = true ∧ takeable ⟨6, 4, []⟩ State.reset)
      ∧ (wellFormed (.callClose 4 []) = true ∧ takeable ⟨6, 4, []⟩ (atPort { ControlPort.reset with requests := [⟨6, 4, []⟩] }))
      ∧ ¬takeable ⟨6, 4, []⟩ (atPort { ControlPort.reset with requests := [⟨6, 3, []⟩] })
      ∧ ¬takeable ⟨6, 4, []⟩ (atPort { ControlPort.reset with replies := List.replicate 4 ⟨0x86, 0, [0]⟩ })
      ∧ ¬takeable ⟨6, 4, []⟩ (atPort { ControlPort.reset with softReset := .replyOwed }) := by decide

theorem test_RefusedRequestChangesNothing_witness :
    messageOfInstr (.callClose 4 []) = some ⟨6, 4, []⟩ ∧ takeable ⟨6, 4, []⟩ State.reset
      ∧ exec (.callClose 4 []) State.reset = .next (replied 0x86 4 [3] State.reset) ∧ 2 ≤ (3 : Byte).toNat
      ∧ (replied 0x86 4 [3] State.reset).control.replies
        = State.reset.control.replies ++ [⟨replyKind (6 : Byte), 4, 3 :: []⟩] :=
  ⟨rfl, by decide, rfl, by decide, rfl⟩

theorem test_RequestsAndMessagesAgree_witness (body : List Byte) (h : body.length = 256) :
    (⟨0x11, 7, body⟩ : Message).body.length ≤ 256 ∧ wellFormed (.mixSet 7 body) = true
      ∧ messageOfInstr (.mixSet 7 body) = some ⟨0x11, 7, body⟩ := by
  simp [wellFormed, messageOfInstr, bodyFits, h]

theorem test_IdentityCallGetAndUnknownKinds_witness :
    takeable ⟨0x01, 9, []⟩ State.reset ∧ takeable ⟨0x02, 9, []⟩ State.reset ∧ takeable ⟨0x1B, 9, []⟩ State.reset
      ∧ (((0 : Byte) = 0 ∨ 28 < (0 : Byte).toNat) ∧ takeable ⟨0, 9, [1]⟩ State.reset)
      ∧ (((29 : Byte) = 0 ∨ 28 < (29 : Byte).toNat) ∧ takeable ⟨29, 9, []⟩ State.reset) := by decide

theorem test_CallOpenOpensFromIdle_witness :
    (takeable ⟨3, 1, [0, 0, 0, 0]⟩ (inCall .closing) ∧ (inCall .closing).call.state ≠ .idle)
      ∧ (takeable ⟨3, 1, [3, 0, 0, 0]⟩ State.reset ∧ State.reset.call.state = .idle ∧ 3 ≤ (3 : Byte).toNat)
      ∧ (takeable ⟨3, 1, [2, 2, 0, 0]⟩ State.reset ∧ 2 ≤ (2 : Byte).toNat)
      ∧ (takeable ⟨3, 1, [2, 1, 1, 1]⟩ State.reset
        ∧ [(2 : Byte), 1, 1, 1] = [CallRate.hz32000.code, WordPosition.second.code, ByteOrder.swapped.code, Loopback.port.code])
      ∧ [(0 : Byte), 0, 0, 0] = [CallRate.hz8000.code, WordPosition.first.code, ByteOrder.normal.code, Loopback.off.code] := by
  decide

theorem test_HoldAndResumeFollowTable_witness :
    takeable ⟨4, 1, []⟩ (inCall .live) ∧ takeable ⟨5, 1, []⟩ (inCall .held) ∧ takeable ⟨4, 1, []⟩ (inCall .lost)
      ∧ takeable ⟨5, 1, []⟩ (inCall .opening) := by decide

theorem test_CloseAndTimeoutOutsideCall_witness :
    ((inCall .opening).call.state = .opening ∧ takeable ⟨6, 1, []⟩ (inCall .opening))
      ∧ 8000000 ≤ ((inCall .opening).air.timeBase + 8000000 - (inCall .opening).call.openTime).toNat
      ∧ ((inCall .opening).air.timeBase + 7999999 - (inCall .opening).call.openTime).toNat < 8000000
      ∧ (takeable ⟨6, 1, []⟩ State.reset ∧ State.reset.call.state = .idle)
      ∧ (takeable ⟨6, 1, []⟩ (inCall .closing) ∧ (inCall .closing).call.state = .closing) := by decide

/-- One slot STREAMING, so that the closing goes on; none in use but a JOINING one, so that it completes. -/
theorem test_CallCloseSendsSlotsAway_witness :
    (takeable ⟨6, 1, []⟩ (withSlot { StreamSlot.reset with state := .streaming })
      ∧ (withSlot { StreamSlot.reset with state := .streaming }).call.state = .live
      ∧ ¬∀ k : SlotId, (withSlot { StreamSlot.reset with state := .streaming }).slots[k].state = .free
        ∨ (withSlot { StreamSlot.reset with state := .streaming }).slots[k].state = .joining)
    ∧ (takeable ⟨6, 1, []⟩ (withSlot { StreamSlot.reset with state := .joining })
      ∧ ∀ k : SlotId, (withSlot { StreamSlot.reset with state := .joining }).slots[k].state = .free
        ∨ (withSlot { StreamSlot.reset with state := .joining }).slots[k].state = .joining)
    ∧ (takeable ⟨6, 1, []⟩ (inCall .held) ∧ (inCall .held).call.state = .held)
    ∧ (takeable ⟨6, 1, []⟩ (inCall .lost) ∧ (inCall .lost).call.state = .lost)
    ∧ ((withSlot { StreamSlot.reset with state := .joining }).slots[(0 : SlotId)].state = .joining
      ∧ (withSlot { StreamSlot.reset with state := .joining }).slots[(0 : SlotId)].rosterIndex = some 0
      ∧ ∀ j : SlotId, 0 < j → (withSlot { StreamSlot.reset with state := .joining }).slots[j].state ≠ .joining)
    ∧ (let winning : State :=
        { inCall .live with
          slots := Vector.replicate 4 { StreamSlot.reset with state := .streaming }
          voices := #v[{ Voice.reset with boundTo := some (.numbered 1), left := some 0, right := some 1, winner := some 0 },
            Voice.reset] }
      winning.slots[(0 : SlotId)].state = .streaming ∧ switchesWinner 0 winning.voices[(0 : VoiceId)]) := by decide

/-- Two earbuds of a voice leave at entry to CLOSING, the winner in slot 0 first: the other becomes the winner with ABSENCE, and the
voice is FREE after both (R13, R139; log entry 37). -/
theorem test_close_with_winner :
    let s : State :=
      { inCall .live with
        slots := #v[{ StreamSlot.reset with state := .streaming }, { StreamSlot.reset with state := .streaming }, StreamSlot.reset,
          StreamSlot.reset]
        voices := #v[{ Voice.reset with boundTo := some (.numbered 1), left := some 0, right := some 1, winner := some 0 },
          Voice.reset] }
    after (exec (.callClose 1 []) s) (fun t => (t.notices.records[Source.voiceSwitch].latestCode, t.voices[(0 : VoiceId)].boundTo))
      = some (2, none) := by decide

theorem test_RosterRequestsFollowRules_witness :
    (takeable ⟨7, 1, BitVec.ofNat 8 (7 : EntryId) :: held.bytes⟩ State.reset
      ∧ State.reset.roster[(7 : EntryId)] ≠ .reserved ∧ State.reset.roster[(7 : EntryId)].isInCall = false
      ∧ ∀ j : EntryId, j ≠ 7 → entriesDiffer (.bonded held) State.reset.roster[j] = true)
    ∧ (held.bytes.length = 28 ∧ 8 ≤ (8 : Byte).toNat ∧ takeable ⟨7, 1, 8 :: held.bytes⟩ State.reset)
    ∧ (withEntry 0 .reserved State.reset).roster[(0 : EntryId)] = .reserved
    ∧ (withEntry 0 (.inCall held) State.reset).roster[(0 : EntryId)].isInCall = true
    ∧ contentsOfBody (0 :: List.replicate 28 0) = none
    ∧ (contentsOfBody (0 :: held.bytes) = some held
      ∧ entriesDiffer (.bonded held) (withEntry 7 (.bonded (heldOther true)) State.reset).roster[(7 : EntryId)] = false)
    ∧ takeable ⟨8, 1, [BitVec.ofNat 8 (7 : EntryId)]⟩ State.reset ∧ takeable ⟨9, 1, [BitVec.ofNat 8 (7 : EntryId)]⟩ State.reset
    ∧ takeable ⟨8, 1, [8]⟩ State.reset ∧ takeable ⟨9, 1, [255]⟩ State.reset := by decide

/-! #### Pairing -/

theorem test_PairStartReservesAndListens_witness :
    (takeable ⟨10, 1, [0]⟩ (pairing .listen) ∧ (pairing .listen).pair.state ≠ .idle)
      ∧ (State.reset.pair.state = .idle
        ∧ ∀ i : EntryId, ({ State.reset with roster := Vector.replicate 8 (.bonded held) } : State).roster[i] ≠ .free)
      ∧ (takeable ⟨10, 1, [121]⟩ State.reset ∧ State.reset.roster[(0 : EntryId)] = .free)
      ∧ ((withEntry 0 (.bonded held) State.reset).roster[(1 : EntryId)] = .free
        ∧ ∀ j : EntryId, j < 1 → (withEntry 0 (.bonded held) State.reset).roster[j] ≠ .free) := by decide

theorem test_PairPickOffersCandidate_witness :
    (takeable ⟨11, 1, [0]⟩ (pairing .keying) ∧ (pairing .keying).pair.state ≠ .listen)
      ∧ (takeable ⟨11, 1, [4]⟩ (pairing .listen) ∧ (pairing .listen).pair.state = .listen ∧ 4 ≤ (4 : Byte).toNat)
      ∧ ((3 : Byte).toNat < 4 ∧ (pairing .listen).pair.candidates[(3 : Byte).toNat]? = none)
      ∧ (pairing .listen).pair.candidates[(0 : Byte).toNat]? = some heard
      ∧ ((withEntry 7 (.inCall held) (pairing .listen)).roster[(7 : EntryId)] = .inCall held
        ∧ held.declared.address = heard.declared.address)
      ∧ (∀ (i : EntryId) (c : Contents), (withEntry 7 (.bonded (heldOther true)) (pairing .listen)).roster[i] ≠ .inCall c)
      ∧ ((withEntry 7 (.bonded (heldOther true)) (pairing .listen)).roster[(7 : EntryId)].contents = some (heldOther true)
        ∧ (heldOther true).declared.address ≠ heard.declared.address
        ∧ (heldOther true).declared.place = heard.declared.place ∧ heard.declared.place ≠ .mono)
      ∧ (∀ i : EntryId, (pairing .listen).roster[i].contents = none) := by
  refine ⟨by decide, by decide, by decide, by decide, by decide, fun i c h => ?_, by decide, by decide⟩
  have all : ∀ j : EntryId, (withEntry 7 (.bonded (heldOther true)) (pairing .listen)).roster[j].isInCall = false := by decide
  have this := all i
  simp [h, RosterEntry.isInCall] at this

theorem test_ConfirmAndCancelDecide_witness :
    (takeable ⟨12, 1, [1]⟩ (pairing .keying) ∧ ¬((pairing .keying).pair.state = .compare ∧ (pairing .keying).pair.endPending = none))
      ∧ (takeable ⟨12, 1, [1]⟩ (abandoning .timeout)
        ∧ ¬((abandoning .timeout).pair.state = .compare ∧ (abandoning .timeout).pair.endPending = none))
      ∧ (takeable ⟨12, 1, [2]⟩ (pairing .compare) ∧ (pairing .compare).pair.state = .compare
        ∧ (pairing .compare).pair.endPending = none ∧ 2 ≤ (2 : Byte).toNat)
      ∧ (takeable ⟨13, 1, []⟩ State.reset ∧ State.reset.pair.state = .idle)
      ∧ (takeable ⟨13, 1, []⟩ (abandoning .timeout) ∧ (abandoning .timeout).pair.state ≠ .idle
        ∧ (abandoning .timeout).pair.endPending ≠ none)
      ∧ (takeable ⟨13, 1, []⟩ (pairing .binding) ∧ (pairing .binding).pair.state ≠ .idle ∧ (pairing .binding).pair.state ≠ .listen
        ∧ (pairing .binding).pair.endPending = none)
      ∧ (takeable ⟨13, 1, []⟩ (pairing .listen) ∧ (pairing .listen).pair.state = .listen
        ∧ (pairing .listen).pair.endPending = none) := by decide

/-- A LISTEN context with some of four candidates, one of quality 100 among three of 200. -/
def crowded (n : Nat) : State :=
  pairWith .listen fun p =>
    { p with
      candidates := [⟨⟨1, .mono, true, .all, .a⟩, 200, 0⟩, ⟨⟨2, .mono, true, .all, .a⟩, 100, 0⟩, ⟨⟨3, .mono, true, .all, .a⟩, 200, 0⟩,
        ⟨⟨4, .mono, true, .all, .a⟩, 200, 0⟩].take n }

theorem test_AskListsCandidatesThatExpire_witness :
    (∀ n, (crowded n).air.use = .turn .listen false ∧ (crowded n).pair.state = .listen ∧ (crowded n).pair.endPending = none
      ∧ fromEar.destination = Config.partAddress ∧ inSecondHalf (crowded n))
    ∧ ((firstHalf .listen).air.use = .turn .listen false ∧ (firstHalf .listen).pair.state = .listen
      ∧ ¬inSecondHalf (firstHalf .listen))
    ∧ checkDeclared fromEar.source ⟨none, 0, 1, 7, 0⟩ = none
    ∧ checkDeclared fromEar.source ⟨some 1, 0, 1, 7, 0⟩ = some ear
    ∧ ((pairing .listen).air.use = .turn .listen false ∧ ∃ x ∈ (pairing .listen).pair.candidates, x.declared.address = fromEar.source)
    ∧ ((∀ x ∈ (crowded 3).pair.candidates, x.declared.address ≠ fromEar.source) ∧ (crowded 3).pair.candidates.length < 4)
    ∧ ((∀ x ∈ (crowded 4).pair.candidates, x.declared.address ≠ fromEar.source) ∧ 4 ≤ (crowded 4).pair.candidates.length)
    ∧ (∃ x ∈ (crowded 4).pair.candidates, x.quality.toNat < (101 : Byte).toNat)
    ∧ (∀ x ∈ (crowded 4).pair.candidates, (100 : Byte).toNat ≤ x.quality.toNat)
    ∧ (pairing .offered).pair.state ≠ .listen
    ∧ ¬((pairing .offered).air.use = .turn .listen false ∧ (pairing .offered).pair.state = .listen
      ∧ (pairing .offered).pair.endPending = none) :=
  ⟨fun _ => ⟨rfl, rfl, rfl, rfl, by show inSecondHalf (pairing .listen); decide⟩, by decide, rfl, rfl, by decide, by decide, by decide, by decide, by decide,
    by decide, by decide⟩

theorem test_PartnerFramesMoveHandshake_witness :
    (partnerTurn .offered fromEar (pairing .offered) ∧ (pairing .offered).pair.state = .offered)
      ∧ (partnerTurn .keying fromEar (pairing .keying) ∧ (pairing .keying).pair.state = .keying)
      ∧ (partnerTurn .compare fromEar (pairing .compare) ∧ (pairing .compare).pair.state = .compare)
      ∧ ¬(partnerTurn .offered fromEar (firstHalf .offered) ∧ (firstHalf .offered).pair.state = .offered)
      ∧ ¬((partnerTurn .keying fromOther (pairing .keying) ∨ partnerTurn .compare fromOther (pairing .keying))
        ∧ ((pairing .keying).pair.state = .keying ∨ (pairing .keying).pair.state = .compare)) :=
  ⟨⟨⟨rfl, by decide, rfl, rfl, rfl⟩, rfl⟩, ⟨⟨rfl, by decide, rfl, rfl, rfl⟩, rfl⟩, ⟨⟨rfl, by decide, rfl, rfl, rfl⟩, rfl⟩,
    fun h => absurd h.1.2.1 (by decide), fun h => h.1.elim (fun p => absurd p.2.2.2.2 (by decide)) fun p => absurd p.1 (by decide)⟩

/-- The entries beside the reserved one say which clause applies; the other hypotheses hold whatever they are. -/
theorem test_BoundWritesBond_witness :
    (∀ (i : EntryId) (x : RosterEntry), partnerTurn .binding fromEar (withEntry i x (pairing .binding))
      ∧ (withEntry i x (pairing .binding)).pair.state = .binding
      ∧ (withEntry i x (pairing .binding)).pair.reservedEntry = some 0
      ∧ (withEntry i x (pairing .binding)).pair.partner = some heard ∧ (withEntry i x (pairing .binding)).pair.linkKey = some 9)
    ∧ (rosterLaw (withEntry 7 (.inCall held) (pairing .binding))
      ∧ (withEntry 7 (.inCall held) (pairing .binding)).roster[(0 : EntryId)] = .reserved
      ∧ (withEntry 7 (.inCall held) (pairing .binding)).roster[(7 : EntryId)] = .inCall held
      ∧ held.declared.address = heard.declared.address)
    ∧ (rosterLaw (withEntry 1 (.bonded held) (pairing .binding))
      ∧ (withEntry 1 (.bonded held) (pairing .binding)).roster[(0 : EntryId)] = .reserved
      ∧ (withEntry 1 (.bonded held) (pairing .binding)).roster[(1 : EntryId)] = .bonded held)
    ∧ (rosterLaw (withEntry 1 (.bonded ⟨{ ear with place := .mono }, 9⟩) (withEntry 7 (.bonded (heldOther true)) (pairing .binding)))
      ∧ (heldOther true).declared.place = heard.declared.place ∧ heard.declared.place ≠ .mono)
    ∧ (rosterLaw (withEntry 7 (.bonded (heldOther true)) (pairing .binding))
      ∧ (heldOther true).declared.address ≠ heard.declared.address)
    ∧ (rosterLaw (withEntry 7 (.bonded (heldOther false)) (pairing .binding))
      ∧ (heldOther false).declared.place ≠ heard.declared.place)
    ∧ ¬(partnerTurn .binding fromOther (pairing .binding) ∧ (pairing .binding).pair.state = .binding) :=
  ⟨fun _ _ => ⟨⟨rfl, by show inSecondHalf (pairing .binding); decide, rfl, rfl, rfl⟩, rfl, rfl, rfl, rfl⟩, by decide, by decide, by decide, by decide,
    by decide, fun h => absurd h.1.2.2.2.2 (by decide)⟩

theorem test_PairingTimersEndHandshake_witness :
    let listening := pairWith .listen fun p => { p with windowEnded := true }
    let binding := pairWith .binding fun p => { p with bindCount := 10 }
    let waited (n : Nat) := pairWith .offered fun p => { p with turnsWaited := 4, attempt := n }
    let compared (n : Nat) := pairWith .compare fun p => { p with compareCount := n }
    (listening.pair.state = .listen ∧ listening.pair.windowEnded = true)
      ∧ (binding.pair.state = .binding ∧ binding.pair.endPending = none ∧ 10 ≤ binding.pair.bindCount)
      ∧ ((abandoning .cancelled).air.use = .turn .keying true ∧ (abandoning .cancelled).pair.endPending = some .cancelled)
      ∧ ((waited 2).pair.state = .offered ∧ (waited 2).pair.endPending = none ∧ 4 ≤ (waited 2).pair.turnsWaited
        ∧ (waited 2).pair.attempt < 3)
      ∧ ((waited 3).pair.state = .offered ∧ (waited 3).pair.endPending = none ∧ 4 ≤ (waited 3).pair.turnsWaited
        ∧ 3 ≤ (waited 3).pair.attempt ∧ (waited 3).pair.partner = some heard ∧ (waited 3).pair.windowEnded = false)
      ∧ (let ended := { waited 3 with pair := { (waited 3).pair with windowEnded := true } }
        ended.pair.state = .offered ∧ 3 ≤ ended.pair.attempt ∧ ended.pair.windowEnded = true)
      ∧ ((pairing .offered).air.use = .turn .offered false ∧ inSecondHalf (pairing .offered))
      ∧ ((firstHalf .offered).air.use = .turn .offered false ∧ ¬inSecondHalf (firstHalf .offered))
      ∧ ((compared 3000).pair.state = .compare ∧ (compared 3000).pair.endPending = none ∧ 3000 ≤ (compared 3000).pair.compareCount)
      ∧ ((compared 2999).pair.state = .compare ∧ (compared 2999).pair.endPending = none
        ∧ (compared 2999).pair.compareCount < 3000) := by decide

/-- An ACCEPT is taken from 2,000 ticks after the start of slot 9, and not before (R34). -/
theorem test_accept_in_second_half :
    after (exec (.accept fromEar []) (pairing .offered)) (fun t => t.pair.state) = some .keying
      ∧ after (exec (.accept fromEar []) (firstHalf .offered)) (fun t => t.pair.state) = some .offered := by
  have later : takenFromPartner .offered fromEar (pairing .offered) = true := by
    have h : secondHalf (pairing .offered).air = true := by decide
    simp only [takenFromPartner, inTurn, h, Bool.and_true, fromEar, beq_self_eq_true]
    decide
  have early : takenFromPartner .offered fromEar (firstHalf .offered) = false := by
    have h : secondHalf (firstHalf .offered).air = false := by decide
    simp [takenFromPartner, inTurn, h]
  constructor
  · simp only [exec, execAccept, accept, later, if_true]; rfl
  · simp only [exec, execAccept, accept, early]; rfl

/-- The turns waited advance where the turn began in OFFERED, though its ACCEPT has led on to KEYING (R41). -/
theorem test_turn_begun_in_offered_counts :
    (PairContext.endInterval (.turn .offered false) { PairContext.reset with state := .keying, turnsWaited := 2 }).turnsWaited = 3
      ∧ (PairContext.endInterval (.turn .keying false) { PairContext.reset with state := .keying, turnsWaited := 2 }).turnsWaited = 2 := by
  decide

theorem test_KeyComputationDeliversCode_witness :
    let busy (discarded : Bool) : KeyComputation := ⟨[1], [2], 5, discarded⟩
    let delivering : State := { pairing .keying with keyUnit := ⟨some (busy false), none⟩ }
    let dropping : State := { pairing .offered with keyUnit := ⟨some (busy true), some ([3], [4])⟩ }
    (delivering.keyUnit.running = some (busy false) ∧ 5 ≤ (busy false).intervals ∧ (busy false).discarded = false
      ∧ delivering.pair.state = .keying ∧ delivering.pair.endPending = none)
    ∧ (dropping.keyUnit.running = some (busy true) ∧ 5 ≤ (busy true).intervals ∧ (busy true).discarded = true) := by decide

/-! #### Stream slots -/

/-- A LIVE call whose four slots are all in one state. -/
def fullOf (st : SlotState) : State := { inCall .live with slots := Vector.replicate 4 { StreamSlot.reset with state := st } }

theorem test_EarJoinTakesLowestSlot_witness :
    (takeable ⟨14, 1, [0]⟩ State.reset ∧ State.reset.call.state ≠ .live ∧ State.reset.call.state ≠ .held)
      ∧ (takeable ⟨14, 1, [8]⟩ (inCall .held) ∧ (inCall .held).call.state = .held ∧ 8 ≤ (8 : Byte).toNat)
      ∧ ((inCall .live).call.state = .live ∧ (inCall .live).roster[(7 : EntryId)] = .free)
      ∧ (withEntry 7 .reserved (inCall .live)).roster[(7 : EntryId)] = .reserved
      ∧ (withEntry 7 (.inCall held) (inCall .live)).roster[(7 : EntryId)] = .inCall held
      ∧ ((withEntry 7 (.bonded ⟨{ ear with rates := .both16and32 }, 9⟩) (inCall .live)).call.state = .live
        ∧ RateSet.both16and32.holds (inCall .live).call.rate = false)
      ∧ ((withEntry 7 (.bonded held) (fullOf .joining)).roster[(7 : EntryId)] = .bonded held
        ∧ held.declared.rates.holds (fullOf .joining).call.rate = true
        ∧ ∀ k : SlotId, (withEntry 7 (.bonded held) (fullOf .joining)).slots[k].state ≠ .free)
      ∧ ((withEntry 7 (.bonded held) (inCall .live)).roster[(7 : EntryId)] = .bonded held
        ∧ (withEntry 7 (.bonded held) (inCall .live)).slots[(0 : SlotId)].state = .free) := by decide

theorem test_EarLeaveFollowsTable_witness :
    (4 ≤ (4 : Byte).toNat ∧ takeable ⟨15, 1, [4]⟩ (inCall .live))
      ∧ (takeable ⟨15, 1, [BitVec.ofNat 8 (3 : SlotId)]⟩ (inCall .live) ∧ (inCall .live).slots[(3 : SlotId)].state = .free)
      ∧ (fullOf .leaving).slots[(3 : SlotId)].state = .leaving
      ∧ ((fullOf .joining).slots[(3 : SlotId)].state = .joining ∧ ¬completesClosing 3 (fullOf .joining))
      ∧ ((fullOf .streaming).slots[(3 : SlotId)].state = .streaming
        ∧ ∀ v : VoiceId, ¬switchesWinner 3 (fullOf .streaming).voices[v]) := by decide

/-- Slot 0's uplink slot, the slot in a state at its start and now. -/
def uplinkOf (st : SlotState) (count : Nat) : State :=
  { withSlot { StreamSlot.reset with state := st, intervalCount := count } with
    air := { AirState.reset with slot := some 1, use := .uplink 0 st } }

theorem test_JoinAckEndsJoin_witness :
    (uplinkOf .joining 1).air.use = .uplink 0 .joining ∧ (uplinkOf .joining 1).slots[(0 : SlotId)].state = .joining
      ∧ ¬completesClosing 0 (uplinkOf .joining 1) ∧ voiceLaw (uplinkOf .joining 1)
      ∧ fromEar.destination = Config.partAddress ∧ (uplinkOf .joining 1).slots[(0 : SlotId)].rosterIndex = some 0
      ∧ (uplinkOf .joining 1).roster[(0 : EntryId)].contents = some held ∧ held.declared.address = fromEar.source
      ∧ (∀ k : SlotId, ¬((uplinkOf .streaming 0).air.use = .uplink k .joining
        ∧ (uplinkOf .streaming 0).slots[k].state = .joining ∧ fromEarbud k fromEar (uplinkOf .streaming 0))) :=
  ⟨by decide, by decide, by decide, by decide, rfl, by decide, by decide, rfl, fun k h => absurd h.2.1 (by clear h; revert k; decide)⟩

/-- A voice of set 1 with its sides as given. -/
def voiceOf (left right : Option SlotId) : Voice := { Voice.reset with boundTo := some (.numbered 1), left := left, right := right }

/-- A LIVE call with two voices. -/
def voiced (v0 v1 : Voice) : State := { fullOf .streaming with voices := #v[v0, v1] }

theorem test_NewStreamTakesVoice_witness :
    ({ ear with microphone := false } : Declared).microphone = false
      ∧ (ear.microphone = true
        ∧ (voiced Voice.reset (voiceOf none (some 1))).voices[(1 : VoiceId)].boundTo = some (.numbered 1)
        ∧ (∀ w : VoiceId, w < 1 → (voiced Voice.reset (voiceOf none (some 1))).voices[w].boundTo ≠ some (.numbered 1))
        ∧ ear.place = .left 1 ∧ (voiced Voice.reset (voiceOf none (some 1))).voices[(1 : VoiceId)].left = none)
      ∧ (voiced (voiceOf (some 1) none) Voice.reset).voices[(0 : VoiceId)].right = none
      ∧ (∀ v : VoiceId, (voiced Voice.reset Voice.reset).voices[v].boundTo = none)
      ∧ (∀ v : VoiceId, (voiced (voiceOf (some 1) none) { Voice.reset with boundTo := some .mono, mono := some 2 }).voices[v].boundTo
        ≠ none)
      ∧ (∀ (w : VoiceId) (setId : Byte),
        (voiced (voiceOf (some 1) none) { Voice.reset with boundTo := some .mono, mono := some 2 }).voices[w].boundTo
            = some (.numbered setId) →
          (ear.place = .left setId →
            (voiced (voiceOf (some 1) none) { Voice.reset with boundTo := some .mono, mono := some 2 }).voices[w].left ≠ none)
          ∧ (ear.place = .right setId →
            (voiced (voiceOf (some 1) none) { Voice.reset with boundTo := some .mono, mono := some 2 }).voices[w].right
              ≠ none)) := by
  refine ⟨by decide, by decide, by decide, by decide, by decide, fun w setId h => ?_⟩
  rcases w with ⟨_ | _ | _, hw⟩
  · exact ⟨fun _ => by simp [voiced, voiceOf], nofun⟩
  · simp [voiced] at h
  · omega

theorem test_JoinsLeavesAndLinksEnd_witness :
    (¬completesClosing 0 (uplinkOf .joining 20) ∧ (uplinkOf .joining 20).slots[(0 : SlotId)].state = .joining
        ∧ 20 ≤ (uplinkOf .joining 20).slots[(0 : SlotId)].intervalCount)
      ∧ (¬completesClosing 0 (uplinkOf .leaving 3) ∧ (uplinkOf .leaving 3).slots[(0 : SlotId)].state = .leaving
        ∧ 3 ≤ (uplinkOf .leaving 3).slots[(0 : SlotId)].intervalCount)
      ∧ ((uplinkOf .leaving 2).air.use = .uplink 0 .leaving ∧ fromEarbud 0 fromEar (uplinkOf .leaving 2)
        ∧ (uplinkOf .leaving 2).slots[(0 : SlotId)].intervalCount < 3)
      ∧ (50 ≤ (withSlot { StreamSlot.reset with state := .leaving, supervision := 50, intervalCount := 2 }).slots[(0 : SlotId)].supervision
        ∧ ¬completesClosing 0 (withSlot { StreamSlot.reset with state := .leaving, supervision := 50, intervalCount := 2 }))
      ∧ (50 ≤ (withSlot { StreamSlot.reset with state := .streaming, supervision := 50 }).slots[(0 : SlotId)].supervision
        ∧ ¬completesClosing 0 (withSlot { StreamSlot.reset with state := .streaming, supervision := 50 }))
      ∧ ((uplinkOf .joining 19).slots[(0 : SlotId)].state = .joining ∧ (uplinkOf .joining 19).slots[(0 : SlotId)].intervalCount < 20)
      ∧ ((uplinkOf .leaving 2).slots[(0 : SlotId)].state = .leaving ∧ (uplinkOf .leaving 2).slots[(0 : SlotId)].intervalCount < 3)
      ∧ (withSlot { StreamSlot.reset with state := .streaming, supervision := 49 }).slots[(0 : SlotId)].supervision < 50
      ∧ (∀ k : SlotId, ¬((uplinkOf .joining 19).air.use = .uplink k .leaving ∧ (uplinkOf .joining 19).slots[k].state = .leaving
        ∧ fromEarbud k fromEar (uplinkOf .joining 19))) :=
  ⟨by decide, by decide, ⟨by decide, ⟨rfl, 0, held, by decide, by decide, rfl⟩, by decide⟩, by decide, by decide, by decide,
    by decide, by decide, fun k h => absurd h.2.1 (by clear h; revert k; decide)⟩

/-- The twentieth JOIN_REQ ends a join, and the nineteenth does not (R61). -/
theorem test_twentieth_join_request :
    after (exec (.joinNoAnswer 0) (uplinkOf .joining 20)) (fun t => t.slots[(0 : SlotId)].state) = some .free
      ∧ after (exec (.joinNoAnswer 0) (uplinkOf .joining 19)) (fun t => t.slots[(0 : SlotId)].state) = some .joining := by decide

/-- The last slot of a closing, in its uplink slot. -/
def lastLeaving (count supervision : Nat) : State :=
  { closingWith { StreamSlot.reset with state := .leaving, intervalCount := count, supervision := supervision } with
    air := { AirState.reset with slot := some 1, use := .uplink 0 .leaving } }

theorem test_LastSlotCompletesClosing_witness :
    (completesClosing 0 (lastLeaving 3 0) ∧ (lastLeaving 3 0).slots[(0 : SlotId)].state = .leaving
        ∧ 3 ≤ (lastLeaving 3 0).slots[(0 : SlotId)].intervalCount)
      ∧ ((lastLeaving 3 0).air.use = .uplink 0 .leaving ∧ fromEarbud 0 fromEar (lastLeaving 3 0))
      ∧ (completesClosing 0 (lastLeaving 2 50) ∧ (lastLeaving 2 50).slots[(0 : SlotId)].state = .leaving
        ∧ (lastLeaving 2 50).slots[(0 : SlotId)].intervalCount < 3
        ∧ 50 ≤ (lastLeaving 2 50).slots[(0 : SlotId)].supervision) :=
  ⟨by decide, ⟨by decide, rfl, 0, held, by decide, by decide, rfl⟩, by decide⟩

/-! #### The slot plan -/

/-- A state in a slot of the plan, with a slot 0 of a kind and its store. -/
def plan (n : Option (Fin 10)) (x : StreamSlot) (store : List Block) : State :=
  { withSlot x with
    air := { AirState.reset with slot := n }
    stores := State.reset.stores.set 0 store }

theorem test_SlotStartLatchesAnchorAndListens_witness :
    State.reset.air.slot = (if (0 : Fin 10) = 0 then none else some ((0 : Fin 10) - 1))
      ∧ (plan (some 8) StreamSlot.reset []).air.slot = (if (9 : Fin 10) = 0 then none else some ((9 : Fin 10) - 1))
      ∧ (plan (some 9) StreamSlot.reset []).air.slot = some 9
      ∧ (plan (some 0) StreamSlot.reset []).air.slot = some ⟨2 * (0 : SlotId).val, by decide⟩
      ∧ (plan (some 6) StreamSlot.reset []).air.slot = some ⟨2 * (3 : SlotId).val, by decide⟩ := by decide

set_option maxRecDepth 8192 in
theorem test_DownlinkSlotSendsByState_witness :
    (∀ store ∈ ([[], [⟨7, [1, 2]⟩]] : List (List Block)), ∀ st ∈ [SlotState.joining, .leaving, .streaming],
      (plan none { StreamSlot.reset with state := st } store).air.slot
          = (if (0 : SlotId) = 0 then none else some (Fin.ofNat 10 (2 * (0 : SlotId).val - 1)))
        ∧ finishInterval (plan none { StreamSlot.reset with state := st } store) = plan none { StreamSlot.reset with state := st } store
        ∧ (plan none { StreamSlot.reset with state := st } store).slots[(0 : SlotId)].rosterIndex = some 0
        ∧ (plan none { StreamSlot.reset with state := st } store).roster[(0 : EntryId)].contents = some held
        ∧ (plan none { StreamSlot.reset with state := st } store).slots[(0 : SlotId)].state = st
        ∧ (plan none { StreamSlot.reset with state := st } store).stores[(0 : SlotId)] = store)
    ∧ ((plan (some 5) StreamSlot.reset []).air.slot
        = (if (3 : SlotId) = 0 then none else some (Fin.ofNat 10 (2 * (3 : SlotId).val - 1)))
      ∧ (plan (some 5) StreamSlot.reset []).slots[(3 : SlotId)].state = .free)
    ∧ ({ StreamSlot.reset with lastSent := some ⟨7, [1]⟩ } : StreamSlot).lastSent = some ⟨7, [1]⟩ := by decide

/-- Two slots STREAMING, both owed a retry. -/
def retrying (n : Fin 10) (st : PairState) : State :=
  { pairing st with
    air := { AirState.reset with slot := some n }
    roster := (State.reset.roster.set 0 .reserved).set 1 (.inCall held)
    slots := #v[{ StreamSlot.reset with state := .streaming, retryCandidate := true, rosterIndex := some 1 },
      { StreamSlot.reset with state := .streaming, retryCandidate := true }, StreamSlot.reset, StreamSlot.reset] }

theorem test_SpareSlotGoesInTurn_witness :
    ((plan (some 7) StreamSlot.reset []).air.slot = some 7
        ∧ ∀ k : SlotId, ¬((plan (some 7) StreamSlot.reset []).slots[k].retryCandidate = true
          ∨ (k = 3 ∧ (plan (some 7) StreamSlot.reset []).slots[k].state = .streaming
            ∧ (plan (some 7) StreamSlot.reset []).slots[k].heard = false)))
      ∧ ((retrying 7 .idle).air.slot = some 7 ∧ ∃ k : SlotId, (retrying 7 .idle).slots[k].retryCandidate = true)
      ∧ ((retrying 7 .idle).slots[(0 : SlotId)].rosterIndex = some 1 ∧ (retrying 7 .idle).roster[(1 : EntryId)].contents = some held)
      ∧ ((fullOf .streaming).slots[(3 : SlotId)].state = .streaming ∧ (fullOf .streaming).slots[(3 : SlotId)].heard = false) := by
  decide

theorem test_SlotNineServesPairingOrRetry_witness :
    ((retrying 8 .idle).air.slot = some 8 ∧ (retrying 8 .idle).pair.state = .idle
        ∧ ∃ k : SlotId, (retrying 8 .idle).slots[k].retryCandidate = true)
      ∧ ((plan (some 8) StreamSlot.reset []).air.slot = some 8 ∧ (plan (some 8) StreamSlot.reset []).pair.state = .idle
        ∧ ∀ k : SlotId, (plan (some 8) StreamSlot.reset []).slots[k].retryCandidate = false)
      ∧ ((retrying 8 .binding).air.slot = some 8 ∧ (retrying 8 .binding).pair.state ≠ .idle
        ∧ (∃ k : SlotId, (retrying 8 .binding).slots[k].retryCandidate = true)
        ∧ (5 : Address) = ((retrying 8 .binding).pair.partner.map Candidate.address).getD 0) := by decide

theorem test_IntervalEndAdvancesCounts_witness :
    (plan (some 9) StreamSlot.reset []).air.slot ≠ none
      ∧ (∀ began, (plan (some 9) StreamSlot.reset []).air.use ≠ .turn began true)
      ∧ ¬((plan (some 9) StreamSlot.reset []).pair.state = .binding ∧ (plan (some 9) StreamSlot.reset []).pair.endPending = none
        ∧ 10 ≤ (plan (some 9) StreamSlot.reset []).pair.bindCount) :=
  ⟨by decide, nofun, by decide⟩

/-! #### Arrivals, drift and conversion -/

/-- A stream in its uplink slot, or in a spare slot granted to it, with its last accepted sequence, its queue and its converter. -/
def arriving (retried : Bool) (last : Option Sequence) (q : RxQueue) (c : Converter) : State :=
  { withSlot { StreamSlot.reset with state := .streaming, lastAccepted := last } with
    queues := State.reset.queues.set 0 q
    convs := State.reset.convs.set 0 c
    air := { AirState.reset with slot := some 1, use := if retried then .spare 0 else .uplink 0 .streaming } }

/-- A queue in a state with as many entries of rising sequence. -/
def queueOf (st : QueueState) (entries : List QueueEntry) : RxQueue := { RxQueue.reset with state := st, entries := entries }

/-- A converter whose claimed edge binds. -/
def edgedAt (edge : Count32) : Converter := { Converter.reset with edgeState := .moving, claimedEdge := edge }

theorem test_fromEar_is_the_earbud (retried : Bool) (last : Option Sequence) (q : RxQueue) (c : Converter) :
    (arriving retried last q c).air.use = (if retried then .spare 0 else .uplink 0 .streaming)
      ∧ (arriving retried last q c).slots[(0 : SlotId)].state = .streaming ∧ fromEarbud 0 fromEar (arriving retried last q c) :=
  ⟨rfl, rfl, rfl, 0, held, rfl, rfl, rfl⟩

/-- An UP that comes while the slot is LEAVING. -/
theorem test_up_out_of_its_slot_witness (k : SlotId) :
    ¬(((uplinkOf .leaving 1).air.use = .uplink k .streaming ∨ (uplinkOf .leaving 1).air.use = .spare k)
      ∧ (uplinkOf .leaving 1).slots[k].state = .streaming ∧ fromEarbud k fromEar (uplinkOf .leaving 1)) :=
  fun h => absurd h.2.1 (by clear h; revert k; decide)

/-- With the lemma above: an UP that does not fit; a STOPPED queue; the sequence last accepted, again; a sequence just newer, its
stamp one sample before the claimed edge. -/
theorem test_UpIsHeardThenJudged_witness :
    ¬upFits { upOf 2 with noMic := false } (arriving false none RxQueue.reset Converter.reset)
      ∧ (upFits (upOf 2) (arriving false none RxQueue.reset Converter.reset)
        ∧ (arriving false none RxQueue.reset Converter.reset).queues[(0 : SlotId)].state = .stopped)
      ∧ (upFits (upOf 2) (arriving true (some 2) (queueOf .playing [entry 2]) Converter.reset)
        ∧ (arriving true (some 2) (queueOf .playing [entry 2]) Converter.reset).queues[(0 : SlotId)].state ≠ .stopped
        ∧ (arriving true (some 2) (queueOf .playing [entry 2]) Converter.reset).slots[(0 : SlotId)].lastAccepted = some 2
        ∧ newer (upOf 2).sequence 2 = false)
      ∧ ((arriving false (some 1) (queueOf .filling []) (edgedAt 161)).queues[(0 : SlotId)].state ≠ .stopped
        ∧ (arriving false (some 1) (queueOf .filling []) (edgedAt 161)).slots[(0 : SlotId)].lastAccepted = some 1
        ∧ (arriving false (some 1) (queueOf .filling []) (edgedAt 161)).queues[(0 : SlotId)].entries.head? = none
        ∧ newer (upOf 2).sequence 1 = true
        ∧ (arriving false (some 1) (queueOf .filling []) (edgedAt 161)).convs[(0 : SlotId)].edgeState ≠ .notInForce
        ∧ ((upOf 2).stamp - (arriving false (some 1) (queueOf .filling []) (edgedAt 161)).convs[(0 : SlotId)].claimedEdge).toInt
          < 0) := by decide

/-- With the lemma above: a full queue whose head is partly read, and the stamp at the claimed edge; the first arrival of a stream,
with the largest ready lag that gives a point and with one more; and an open window. -/
theorem test_AcceptedArrivalIsQueued_witness :
    let full := arriving true (some 8) (queueOf .playing ([1, 2, 3, 4, 5, 6, 7, 8].map entry)) { edgedAt 720 with current := .real }
    let first := arriving false none (queueOf .filling []) Converter.reset
    let second := arriving false (some 8) (queueOf .filling [entry 8]) { Converter.reset with windowOpen := true }
    (upFits (upOf 9) full ∧ full.queues[(0 : SlotId)].state ≠ .stopped
        ∧ (∀ a : Sequence, full.slots[(0 : SlotId)].lastAccepted = some a
          ∨ full.queues[(0 : SlotId)].entries.head?.map QueueEntry.sequence = some a → newer (upOf 9).sequence a = true)
        ∧ 0 ≤ ((upOf 9).stamp - full.convs[(0 : SlotId)].claimedEdge).toInt ∧ 8 ≤ full.queues[(0 : SlotId)].entries.length)
      ∧ (upFits (upOf 9) first ∧ first.queues[(0 : SlotId)].state ≠ .stopped
        ∧ (∀ a : Sequence, first.slots[(0 : SlotId)].lastAccepted = some a
          ∨ first.queues[(0 : SlotId)].entries.head?.map QueueEntry.sequence = some a → newer (upOf 9).sequence a = true)
        ∧ first.convs[(0 : SlotId)].edgeState = .notInForce ∧ first.queues[(0 : SlotId)].entries.length < 8
        ∧ (upOf 9).readyLag.toNat ≤ 1000000 ∧ first.convs[(0 : SlotId)].windowOpen = false
        ∧ 1000000 < ({ upOf 9 with readyLag := 1000001 } : UpFrame).readyLag.toNat)
      ∧ (upFits (upOf 9) second ∧ second.queues[(0 : SlotId)].state ≠ .stopped
        ∧ (∀ a : Sequence, second.slots[(0 : SlotId)].lastAccepted = some a
          ∨ second.queues[(0 : SlotId)].entries.head?.map QueueEntry.sequence = some a → newer (upOf 9).sequence a = true)
        ∧ second.convs[(0 : SlotId)].edgeState = .notInForce ∧ second.convs[(0 : SlotId)].windowOpen = true) := by
  refine ⟨⟨by decide, by decide, fun a h => ?_, by decide, by decide⟩, ⟨by decide, by decide, fun a h => ?_, by decide⟩,
    ⟨by decide, by decide, fun a h => ?_, by decide⟩⟩ <;>
  (rcases h with h | h <;> cases h <;> decide)

/-- An overrun abandons a partly read head and counts; the point is given though its entry is the ninth (R86, R102, R117). -/
theorem test_overrun_abandons_the_head :
    let s := arriving false (some 8) (queueOf .playing ([1, 2, 3, 4, 5, 6, 7, 8].map entry)) { edgedAt 720 with current := .real, index := 5 }
    let t := acceptArrival 0 (entryOf (upOf 9) 0 false) s
    t.convs[(0 : SlotId)].current = .none ∧ t.convs[(0 : SlotId)].index = 0 ∧ t.convs[(0 : SlotId)].pointCount = 1
      ∧ t.queues[(0 : SlotId)].stats.overruns = 1 := by decide

theorem test_FillTimeoutStartsPlay_witness :
    let waits := { withSlot StreamSlot.reset with queues := State.reset.queues.set 0 { queueOf .starved [entry 1] with quiet := 4 } }
    (waits.queues[(0 : SlotId)].state = .starved ∧ 4 ≤ waits.queues[(0 : SlotId)].quiet ∧ waits.queues[(0 : SlotId)].entries ≠ [])
      ∧ ¬((waits.queues[(1 : SlotId)].state = .filling ∨ waits.queues[(1 : SlotId)].state = .starved)
        ∧ 4 ≤ waits.queues[(1 : SlotId)].quiet ∧ waits.queues[(1 : SlotId)].entries ≠ []) := by decide

theorem test_QueueSetAndStatsGet_witness :
    takeable ⟨16, 1, [BitVec.ofNat 8 (3 : SlotId), 0, 7]⟩ State.reset
      ∧ takeable ⟨16, 1, [4, 1, 6]⟩ State.reset ∧ (takeable ⟨16, 1, [5, 3, 3]⟩ State.reset ∧ 5 ≤ (5 : Byte).toNat)
      ∧ (4 ≤ (4 : Byte).toNat ∧ takeable ⟨23, 1, [4]⟩ State.reset)
      ∧ (takeable ⟨23, 1, [BitVec.ofNat 8 (3 : SlotId)]⟩ State.reset ∧ State.reset.convs[(3 : SlotId)].lastMeasured < 2 ^ 32) := by
  decide

/-- A window due to close, with a number of points; its ends `deltaS` samples and `t` ticks apart. -/
def windowDue (points : Nat) (deltaS : Count32) (t : Tick) : State :=
  { inCall .live with
    convs := State.reset.convs.set 0
      { Converter.reset with
        windowOpen := true, firstPoint := some ⟨0, 0⟩, lastPoint := some ⟨t, deltaS⟩, pointCount := points }
    air := { AirState.reset with interval := 65 } }

/-- Sixteen points, 64 blocks of 80 samples in 64 × 40,000 ticks: measured exactly nominal. A tick of another length is WILD. -/
theorem test_DriftWindowIsJudged_witness :
    ((windowDue 16 5120 2560000).convs[(0 : SlotId)].windowOpen = true
        ∧ 65 ≤ ((windowDue 16 5120 2560000).air.interval - (windowDue 16 5120 2560000).convs[(0 : SlotId)].openingInterval).toNat
        ∧ linkLossDue (windowDue 16 5120 2560000).slots[(0 : SlotId)] = false
        ∧ (windowDue 16 5120 2560000).convs[(0 : SlotId)].firstPoint = some ⟨0, 0⟩
        ∧ (windowDue 16 5120 2560000).convs[(0 : SlotId)].lastPoint = some ⟨2560000, 5120⟩
        ∧ 16 ≤ (windowDue 16 5120 2560000).convs[(0 : SlotId)].pointCount
        ∧ (((2 * (16777216 * 5120 * (windowDue 16 5120 2560000).call.rate.period) + 2560000) / (2 * 2560000) : Nat) : Int) = 16777216)
      ∧ (windowDue 15 5120 2560000).convs[(0 : SlotId)].pointCount < 16
      ∧ 4 * (windowDue 16 5120 1280000).convs[(0 : SlotId)].classLimit
        < ((((2 * (16777216 * 5120 * (windowDue 16 5120 1280000).call.rate.period) + 1280000) / (2 * 1280000) : Nat) : Int)
          - 16777216).natAbs := by decide

theorem test_ConversionArithmeticIsBounded_witness :
    (16777215 < 16777216 ∧ interpolate (-32768) 32767 16777215 = 32767)
      ∧ baseStepLaw (windowDue 1 0 0) ∧ (Converter.starting 2517 80).classLimit ≤ 2517 := by decide

theorem test_NextFrameIsChosenByGap_witness :
    let reader (edge : Count32) (pending : Nat) : Reader :=
      ⟨{ Converter.reset with claimedEdge := edge, fillPending := pending }, queueOf .playing [entry 3], [], false, false⟩
    0 < (reader 240 2).conv.fillPending
      ∧ ((reader 240 0).conv.fillPending = 0 ∧ nextUnentered (reader 240 0).conv (reader 240 0).queue = some (entry 3))
      ∧ (entry 3).stamp = (reader 240 0).conv.claimedEdge
      ∧ (entry 3).stamp = (reader 160 0).conv.claimedEdge + BitVec.ofNat 32 (1 * 80)
      ∧ (entry 3).stamp = (reader 80 0).conv.claimedEdge + BitVec.ofNat 32 (2 * 80)
      ∧ ((entry 3).stamp ≠ (reader 0 0).conv.claimedEdge ∧ (entry 3).stamp ≠ (reader 0 0).conv.claimedEdge + BitVec.ofNat 32 80
        ∧ (entry 3).stamp ≠ (reader 0 0).conv.claimedEdge + BitVec.ofNat 32 (2 * 80))
      ∧ nextUnentered Converter.reset (queueOf .playing []) = none
      ∧ (reader 0 0).queue.entries = entry 3 :: [] := by decide

/-- A block of two samples with one entry held: the first is the entry's, for the second no follower can be had, so the queue
starves: half of the last output block's sample, the entry consumed, the edge frozen at its end, CONCEALED and counted (R89, R109,
R110, R113, R114, R116). -/
theorem test_starves_in_mid_block :
    let begun := { Converter.reset with freshStartPending := true, lastOutput := [8, -9] }
    let done := convertBlock 2 begun { queueOf .playing [⟨1, 160, 0, 0, false, false, some [5, 7]⟩] with setPoint := 1 }
    done.output = some [5, -4] ∧ done.starved = true ∧ done.queue.state = .starved ∧ done.queue.entries = []
      ∧ done.queue.stats.consumed = 1 ∧ done.queue.stats.starvedBlocks = 1 ∧ done.queue.quality.getLast? = some .concealed
      ∧ done.conv.claimedEdge = 162 ∧ done.conv.edgeState = .frozen ∧ done.conv.concealmentRun = 1 := by decide

theorem test_ConversionGivesBlock_witness :
    (queueOf .filling [entry 1]).state = .filling ∧ (queueOf .playing [entry 1]).state = .playing
      ∧ ((queueOf .starved []).state = .starved
        ∧ (convertBlock 1 { Converter.reset with lastOutput := [-3], concealmentRun := 2 } (queueOf .starved [])).output = some [-1])
      ∧ (convertBlock 1 { Converter.reset with lastOutput := [-3], concealmentRun := 3 } (queueOf .starved [])).output = some [0] := by
  decide

/-! #### The Call Port -/

/-- The port hunting with a reference at 0 and a good count. -/
def huntingAt (st : PortState) (good : Nat) : State :=
  porting { PortRecord.reset with state := st, reference := some 0, goodCount := good }

theorem test_SyncHuntsAndLocks_witness :
    (porting PortRecord.reset).port.state = .stopped
      ∧ (porting { PortRecord.reset with state := .hunting }).port.reference = none
      ∧ ((huntingAt .hunting 16).port.state = .hunting ∧ (huntingAt .hunting 16).port.reference = some 0
        ∧ spacingIsGood (huntingAt .hunting 16).call.rate ((huntingAt .hunting 16).air.timeBase + 485 - 0 : Tick).toNat
        ∧ 16 ≤ (huntingAt .hunting 16).port.goodCount)
      ∧ ((huntingAt .freeRunning 15).port.state = .freeRunning ∧ (huntingAt .freeRunning 15).port.reference = some 0
        ∧ spacingIsGood (huntingAt .freeRunning 15).call.rate ((huntingAt .freeRunning 15).air.timeBase + 515 - 0 : Tick).toNat
        ∧ (huntingAt .freeRunning 15).port.goodCount < 16)
      ∧ ¬spacingIsGood (huntingAt .hunting 3).call.rate ((huntingAt .hunting 3).air.timeBase + 484 - 0 : Tick).toNat
      ∧ ¬spacingIsGood (huntingAt .hunting 3).call.rate ((huntingAt .hunting 3).air.timeBase + 516 - 0 : Tick).toNat := by
  refine ⟨by decide, by decide, ⟨by decide, by decide, ?_, by decide⟩, ⟨by decide, by decide, ?_, by decide⟩, ?_, ?_⟩ <;>
    simp [spacingIsGood, huntingAt, porting, inCall, CallRecord.reset, State.reset, AirState.reset]

/-- A port in a block at a word place. -/
def syncedAt (index : Nat) : State :=
  porting { PortRecord.reset with state := .synced, reference := some 0, wordIndex := index, downGathering := List.replicate (index + 1) 0 }

theorem test_SyncExchangesWords_witness :
    ((syncedAt 78).port.state = .synced ∧ (syncedAt 78).port.wordIndex + 1 < (syncedAt 78).call.rate.samples)
      ∧ ((syncedAt 79).port.state = .synced ∧ (syncedAt 79).call.rate.samples ≤ (syncedAt 79).port.wordIndex + 1) := by decide

/-- Thirty-two periods of 500 ticks, and one tick fewer; a block event overdue, and not; free-run due at 40,000. -/
theorem test_SyncLossAndFreeRunning_witness :
    let running (count : Nat) : State :=
      { porting { PortRecord.reset with state := .freeRunning, freeRunDue := some 40000 } with
        call := { CallRecord.reset with state := .lost, freeRunCount := count } }
    ((huntingAt .hunting 0).port.state ≠ .synced ∧ ((syncedAt 9).air.timeBase + 15999 - 0 : Tick).toNat < 32 * (syncedAt 9).call.rate.period)
      ∧ ((syncedAt 9).port.state = .synced ∧ (syncedAt 9).port.reference = some 0
        ∧ 32 * (syncedAt 9).call.rate.period ≤ ((syncedAt 9).air.timeBase + 16000 - 0 : Tick).toNat
        ∧ ((syncedAt 9).air.timeBase + 16000 - (syncedAt 9).port.lastBlockEventTime).toNat < 40000)
      ∧ (40000 ≤ ((syncedAt 9).air.timeBase + 40000 - (syncedAt 9).port.lastBlockEventTime).toNat ∧ (syncedAt 9).call.state = .live)
      ∧ ((running 198).port.state = .freeRunning ∧ (running 198).port.freeRunDue = some 40000
        ∧ ((running 198).air.timeBase + 39999 - (running 198).port.lastBlockEventTime).toNat
          < ((40000 : Tick) - (running 198).port.lastBlockEventTime).toNat
        ∧ ((40000 : Tick) - (running 198).port.lastBlockEventTime).toNat
          ≤ ((running 198).air.timeBase + 40000 - (running 198).port.lastBlockEventTime).toNat
        ∧ (running 198).call.freeRunCount < 199)
      ∧ ((syncedAt 9).port.reference = some 0 ∧ 32 * (syncedAt 9).call.rate.period
        ≤ ((syncedAt 9).air.timeBase + 40000 - 0 : Tick).toNat)
      ∧ ((running 199).call.state = .lost ∧ 199 ≤ (running 199).call.freeRunCount) := by decide

/-! #### The Mix Matrix, voices and watches -/

theorem test_MixSetWritesShadow_witness :
    let items : List MixItem := [.upCell .down 16385, .earCell 3 .own 65535, .mute 4 true, .earCell 0 .v0 0]
    (1 ≤ items.length ∧ items.length ≤ 24 ∧ takeable ⟨17, 1, items.flatMap itemBytes⟩ State.reset
        ∧ (∃ item ∈ items, itemOver item = true) ∧ mixItemsOfBody (items.flatMap itemBytes) = some items)
      ∧ ((itemBytes (.mute 0 false)).length % 4 = 0 ∧ ([] : List Byte).length % 4 = 0
        ∧ takeable ⟨17, 1, itemBytes (.mute 0 false) ++ [0, 3, 0, 0] ++ []⟩ State.reset)
      ∧ 5 ≤ (5 : Byte).toNat ∧ (4 ≤ (254 : Byte).toNat ∧ (254 : Byte) ≠ 255)
      ∧ 2 ≤ (2 : Byte).toNat ∧ (1 : Byte) ≠ 0 := by decide

theorem test_MixSet_items_fit : ∀ item ∈ [MixItem.upCell .down 16385, .earCell 3 .own 65535, .mute 4 true, .earCell 0 .v0 0],
    itemFits item := by
  simp [itemFits]

theorem test_CommitGetAndSinkSet_witness :
    (takeable ⟨18, 1, []⟩ State.reset ∧ State.reset.call.state = .idle) ∧ (inCall .opening).call.state = .opening
      ∧ (takeable ⟨18, 1, []⟩ (inCall .closing) ∧ (inCall .closing).call.state ≠ .idle ∧ (inCall .closing).call.state ≠ .opening)
      ∧ (takeable ⟨19, 1, [2]⟩ State.reset ∧ 2 ≤ (2 : Byte).toNat) ∧ (takeable ⟨19, 1, [1]⟩ State.reset ∧ (1 : Byte).toNat < 2)
      ∧ (takeable ⟨22, 1, [5, 0]⟩ State.reset ∧ 5 ≤ (5 : Byte).toNat)
      ∧ (takeable ⟨22, 1, [4, 1]⟩ State.reset ∧ (4 : Byte) = BitVec.ofNat 8 (4 : SinkId).val ∧ (1 : Byte) = if true then 1 else 0) := by
  decide

/-- A sum that clamps at the top by one half step, as Example 7.1's does, and one that does not; a sink muted; UP of a HELD call. -/
theorem test_SinksAreMixed_witness :
    let muted : State := { State.reset with mix := { MixState.reset with active := { Bank.reset with mutes := Vector.replicate 5 true } } }
    let held : State := { State.reset with call := { CallRecord.reset with state := .lost, resumeTo := .held } }
    ([⟨[32767], 4097⟩] : List Term).map (fun t => (t.samples, t.gain)) = [([32767], 4097)]
      ∧ muted.mix.active.mutes[(4 : SinkId)] = true ∧ State.reset.mix.active.mutes[(0 : SinkId)] = false
      ∧ ((List.range 1).filter fun i => (gainedSum [([32767], 4097)] i + 2048) / 4096 < -32768
        ∨ 32767 < (gainedSum [([32767], 4097)] i + 2048) / 4096).length = 1
      ∧ ((List.range 1).filter fun i => (gainedSum [([32767], 4096)] i + 2048) / 4096 < -32768
        ∨ 32767 < (gainedSum [([32767], 4096)] i + 2048) / 4096).length = 0
      ∧ (held.call.state = .lost ∧ held.call.resumeTo = .held) ∧ (inCall .live).call.state ≠ .held := by decide

/-- The winner's quality is two below the hysteresis' three of the other at the first queues, three at the second. -/
theorem test_VoicesAreFormed_witness :
    let both : StreamOutputs := #v[some [1], some [2], none, none]
    let poor (n : Nat) : RxQueue := { RxQueue.reset with quality := List.replicate n .concealed ++ List.replicate (16 - n) .good }
    let queues : Vector RxQueue 4 := #v[poor 3, poor 0, RxQueue.reset, RxQueue.reset]
    let best (winner : Option SlotId) (since : Nat) : Voice :=
      { voiceOf (some 0) (some 1) with mode := .best, winner := winner, sinceSwitch := since }
    Voice.reset.boundTo = none
      ∧ ({ Voice.reset with boundTo := some .mono, mono := some 0 } : Voice).boundTo = some .mono
      ∧ ((voiceOf (some 0) (some 2)).left = some 0 ∧ both[(0 : SlotId)] = some [1]
        ∧ (voiceOf (some 0) (some 2)).right = some 2 ∧ both[(2 : SlotId)] = none)
      ∧ ((best (some 0) 7).left = some 0 ∧ (best (some 0) 7).right = some 1 ∧ both[(1 : SlotId)] = some [2]
        ∧ (best (some 0) 7).winner = some 0 ∧ ([1] : List Sample).length = ([2] : List Sample).length)
      ∧ (queues[(1 : SlotId)].quality.count .concealed + (best (some 0) 7).hysteresis ≤ queues[(0 : SlotId)].quality.count .concealed
        ∧ (best (some 0) 7).holdTime ≤ saturatingSucc 65535 (best (some 0) 7).sinceSwitch)
      ∧ ¬(best (some 0) 6).holdTime ≤ saturatingSucc 65535 (best (some 0) 6).sinceSwitch := by decide

theorem test_VoiceAndWatchSet_witness :
    (takeable ⟨20, 1, [2, 0, 3, 8]⟩ State.reset ∧ 2 ≤ (2 : Byte).toNat) ∧ (takeable ⟨20, 1, [0, 4, 3, 8]⟩ State.reset ∧ 4 ≤ (4 : Byte).toNat)
      ∧ (takeable ⟨20, 1, [1, 3, 9, 0]⟩ State.reset ∧ (1 : Byte) = BitVec.ofNat 8 (1 : VoiceId).val)
      ∧ (takeable ⟨21, 1, [5, 0, 0, 0, 1]⟩ State.reset ∧ 5 ≤ (5 : Byte).toNat)
      ∧ (takeable ⟨21, 1, [0, 3, 0, 0, 1]⟩ State.reset ∧ 3 ≤ (3 : Byte).toNat)
      ∧ (takeable ⟨21, 1, [4, 2, 0, 128, 0]⟩ State.reset ∧ (4 : Byte) = BitVec.ofNat 8 (4 : SinkId).val) := by decide

/-- A peak of 200 at the level, and one below it; a run about to reach the count, and one short of that. -/
theorem test_WatchesFire_witness :
    let watching (kind : WatchKind) (run : Nat) (fired : Bool) : State :=
      { State.reset with watches := State.reset.watches.set 0 ⟨kind, 200, 5, run, fired⟩ }
    ([199, -200] : List Sample).foldl (fun p x => max p x.toInt.natAbs) 0 = 200
      ∧ (([199, -200] : List Sample).map fun x => x.toInt.natAbs).foldl max 0 = 200
      ∧ ((watching .peakOver 5 true).watches[(0 : SinkId)].fired = true ∧ 1 ≤ (watching .peakOver 5 true).watches[(0 : SinkId)].count)
      ∧ State.reset.watches[(4 : SinkId)].kind = .off
      ∧ ((watching .peakOver 4 false).watches[(0 : SinkId)].kind = .peakOver ∧ (watching .peakOver 4 false).watches[(0 : SinkId)].level ≤ 200
        ∧ (watching .peakOver 4 false).watches[(0 : SinkId)].run + 1 = (watching .peakOver 4 false).watches[(0 : SinkId)].count)
      ∧ ((watching .quiet 3 false).watches[(0 : SinkId)].kind = .quiet ∧ 199 < (watching .quiet 3 false).watches[(0 : SinkId)].level
        ∧ (watching .quiet 3 false).watches[(0 : SinkId)].run + 1 ≠ (watching .quiet 3 false).watches[(0 : SinkId)].count)
      ∧ (watching .quiet 3 false).watches[(0 : SinkId)].level ≤ 200 ∧ 199 < (watching .peakOver 4 false).watches[(0 : SinkId)].level := by
  decide

/-! #### Notices and the Control Port -/

/-- Source CALL_STATE, of class 0, asserted, and maybe a report of its class outstanding. -/
def noticed (reported : Bool) : State :=
  let n := State.reset.notices.occur Source.callState none 2 0
  { State.reset with notices := if reported then { n with outstanding := n.outstanding.set 0 (some [⟨Source.callState, 0⟩]) } else n }

theorem test_OccurrencesRoutesAndMasks_witness :
    (takeable ⟨24, 1, [15, 0]⟩ State.reset ∧ 15 ≤ (15 : Byte).toNat) ∧ (takeable ⟨24, 1, [0, 4]⟩ State.reset ∧ 4 ≤ (4 : Byte).toNat)
      ∧ ((1 : Byte) = BitVec.ofNat 8 Source.callState.val
        ∧ (noticed true).notices.outstanding[(0 : ClassId)] = some [⟨Source.callState, 0⟩])
      ∧ (takeable ⟨24, 1, [14, 3]⟩ (noticed false) ∧ (14 : Byte) = BitVec.ofNat 8 (14 : SourceId).val
        ∧ ∀ c : ClassId, (noticed false).notices.outstanding[c] = none)
      ∧ (takeable ⟨25, 1, [4, 0, 0]⟩ State.reset ∧ 4 ≤ (4 : Byte).toNat) ∧ takeable ⟨25, 1, [3, 2, 0]⟩ State.reset
      ∧ (takeable ⟨25, 1, [3, 1, 0]⟩ State.reset ∧ (3 : Byte) = BitVec.ofNat 8 (3 : ClassId).val
        ∧ (1 : Byte) = (if true then 1 else 0) ∧ (0 : Byte) = if false then 1 else 0) := by decide

theorem test_PollMakesReport_witness :
    (takeable ⟨28, 1, [4]⟩ State.reset ∧ 4 ≤ (4 : Byte).toNat)
      ∧ (takeable ⟨28, 1, [0]⟩ (noticed true) ∧ (noticed true).notices.outstanding[(0 : ClassId)] ≠ none)
      ∧ (takeable ⟨28, 1, [3]⟩ (noticed false) ∧ (noticed false).notices.outstanding[(3 : ClassId)] = none
        ∧ reportedSources 3 (noticed false).notices = [])
      ∧ (takeable ⟨28, 1, [0]⟩ (noticed false) ∧ (noticed false).notices.outstanding[(0 : ClassId)] = none
        ∧ reportedSources 0 (noticed false).notices ≠ []) := by decide

/-- A told watch that has been set anew since begins its run afresh, as a FIRED one does; one that has fired again stays (R149). -/
theorem test_acknowledgement_rearms :
    rearmed 1 0 0 ⟨.quiet, 5, 3, 3, true⟩ = ⟨.quiet, 5, 3, 0, false⟩ ∧ rearmed 1 0 0 ⟨.quiet, 5, 3, 2, false⟩ = ⟨.quiet, 5, 3, 0, false⟩
      ∧ rearmed 1 1 0 ⟨.quiet, 5, 3, 3, true⟩ = ⟨.quiet, 5, 3, 3, true⟩
      ∧ rearmed 1 0 1 ⟨.quiet, 5, 3, 2, false⟩ = ⟨.quiet, 5, 3, 2, false⟩ := by decide

theorem test_AckEndsReport_witness :
    (takeable ⟨26, 1, [4]⟩ State.reset ∧ 4 ≤ (4 : Byte).toNat)
      ∧ (takeable ⟨26, 1, [3]⟩ (noticed true) ∧ (noticed true).notices.outstanding[(3 : ClassId)] = none)
      ∧ (takeable ⟨26, 1, [0]⟩ (noticed true)
        ∧ (noticed true).notices.outstanding[(0 : ClassId)] = some [⟨Source.callState, 0⟩]
        ∧ ∀ l ∈ [(⟨Source.callState, 0⟩ : Listed)], ∀ l' ∈ [(⟨Source.callState, 0⟩ : Listed)], l.source = l'.source → l = l') := by
  decide

theorem test_FramesBecomeRequests_witness :
    let m : Message := ⟨6, 4, []⟩
    let waits (c : ControlPort) : State := atPort { c with goodFrames := [m.frame] }
    (m.body.length ≤ 256 ∧ State.reset.control.openFrame = [] ∧ State.reset.control.goodFrames = []
        ∧ State.reset.control.requests.length < 4 ∧ State.reset.control.softReset = .notAsked)
      ∧ (let full := atPort { ControlPort.reset with requests := List.replicate 4 m }
        full.control.openFrame = [] ∧ full.control.goodFrames = [] ∧ ¬full.control.requests.length < 4)
      ∧ ((waits { ControlPort.reset with requests := List.replicate 3 m }).control.goodFrames = m.frame :: []
        ∧ (waits { ControlPort.reset with requests := List.replicate 3 m }).control.requests.length < 4)
      ∧ ((waits { ControlPort.reset with softReset := .due }).control.goodFrames = m.frame :: []
        ∧ ¬(waits { ControlPort.reset with softReset := .due }).control.softReset = .notAsked) := by decide

/-- A frame in progress, its bytes as given. -/
def receiving (partly : List Byte) : State := atPort { ControlPort.reset with openFrame := partly }

/-- Lengths 1 and 259, outside 2..258; lengths 2 and 258; the last byte of CALL_CLOSE's frame, right and wrong. -/
theorem test_ReceiverFollowsFrames_witness :
    (State.reset.control.openFrame = [] ∧ (0xC2 : Byte) ≠ 0xC3)
      ∧ ((receiving [0xC3, 2, 0]).control.openFrame ≠ [] ∧ heldBytes (receiving [0xC3, 2, 0]).control.goodFrames [0xC3, 2, 0] < 1024)
      ∧ ((1 : Byte).toNat + 256 * (0 : Byte).toNat < 2 ∧ 258 < (3 : Byte).toNat + 256 * (1 : Byte).toNat)
      ∧ (2 ≤ (2 : Byte).toNat + 256 * (0 : Byte).toNat ∧ (2 : Byte).toNat + 256 * (1 : Byte).toNat ≤ 258)
      ∧ ((receiving [0xC3, 2, 0, 6, 4]).control.openFrame ++ [0xF4] = 0xC3 :: 2 :: 0 :: [6, 4, 0xF4]
        ∧ (2 : Byte).toNat + 256 * (0 : Byte).toNat + 1 ≤ ([6, 4, 0xF4] : List Byte).length
        ∧ (((2 :: 0 :: [6, 4, 0xF4] : List Byte)).map BitVec.toNat).sum % 256 = 0
        ∧ (((2 :: 0 :: [6, 4, 0xF5] : List Byte)).map BitVec.toNat).sum % 256 ≠ 0)
      ∧ 80000 ≤ ((receiving [0xC3]).air.timeBase + 80000 - (receiving [0xC3]).control.lastByteTime).toNat
      ∧ ((receiving [0xC3]).air.timeBase + 79999 - (receiving [0xC3]).control.lastByteTime).toNat < 80000 := by decide

/-- A buffer with one place left, and a full one. -/
theorem test_ReceiverFollowsFrames_full_buffer (frames : List Byte) (h : frames.length = 1022) :
    heldBytes [frames] [0xC3] < 1024 ∧ 1024 ≤ heldBytes [frames] [0xC3, 2] := by
  simp [heldBytes, h]

theorem test_TransmitterChoosesInOrder_witness :
    let idle (c : ControlPort) : State := { noticed false with control := { c with startOwed := false } }
    (State.reset.control.sending = none ∧ State.reset.control.softReset ≠ .due ∧ State.reset.control.startOwed = true)
      ∧ ((idle { ControlPort.reset with replies := [⟨0x86, 4, [0]⟩] }).control.replies = ⟨0x86, 4, [0]⟩ :: []
        ∧ (idle { ControlPort.reset with replies := [⟨0x86, 4, [0]⟩] }).control.startOwed = false)
      ∧ ((idle ControlPort.reset).control.replies = [] ∧ (idle ControlPort.reset).control.sending = none
        ∧ (idle ControlPort.reset).notices.classes[(0 : ClassId)].reportEnabled = true
        ∧ reportedSources 0 (idle ControlPort.reset).notices ≠ []
        ∧ (idle ControlPort.reset).notices.outstanding[(0 : ClassId)] = none)
      ∧ (atPort { ControlPort.reset with sending := some ⟨.reply, []⟩, softReset := .replyOwed, replies := [⟨0x82, 0, [0]⟩] }).control.sending
        = some ⟨.reply, []⟩
      ∧ (atPort { ControlPort.reset with sending := some ⟨.start, []⟩ }).control.sending = some ⟨.start, []⟩ := by decide

/-! #### The laws -/

/-- A part at work: a LIVE call with a stream and its queued entry, a voice, a watch, a pairing with a candidate, an outstanding
report, a frame in progress. -/
def atWork : State :=
  { arriving false (some 2) (queueOf .playing [entry 1, entry 2]) Converter.reset with
    roster := (State.reset.roster.set 0 (.inCall held)).set 1 .reserved
    pair := { PairContext.reset with state := .listen, reservedEntry := some 1, candidates := [heard] }
    queues := State.reset.queues.set 0
      { queueOf .playing [entry 1, entry 2] with stats := { Stats.reset with acceptedArrivals := 3, consumed := 1 } }
    stores := State.reset.stores.set 0 [⟨1, [1]⟩, ⟨2, [2]⟩]
    voices := #v[voiceOf (some 0) none, Voice.reset]
    watches := State.reset.watches.set 0 ⟨.peakOver, 200, 5, 4, false⟩
    port := (syncedAt 1).port
    notices := (noticed true).notices
    control := (receiving [0xC3, 2]).control }

theorem test_attentionLaw_at_work : attentionLaw atWork := by decide
theorem test_reportLaw_at_work : reportLaw atWork := by decide
theorem test_flowLaw_at_work : flowLaw atWork := by decide
theorem test_portQueuesLaw_at_work : portQueuesLaw atWork := by decide
theorem test_gainLaw_at_work : gainLaw atWork := by decide
theorem test_baseStepLaw_at_work : baseStepLaw atWork := by decide
theorem test_watchLaw_at_work : watchLaw atWork := by decide
theorem test_qualityLaw_at_work : qualityLaw atWork := by decide
theorem test_storeLaw_at_work : storeLaw atWork := by decide
theorem test_gatheringLaw_at_work : gatheringLaw atWork := by decide
theorem test_rosterLaw_at_work : rosterLaw atWork := by decide
theorem test_reservationLaw_at_work : reservationLaw atWork := by decide
theorem test_membershipLaw_at_work : membershipLaw atWork := by decide
theorem test_idleLaw_at_work : idleLaw atWork := by decide
theorem test_candidateLaw_at_work : candidateLaw atWork := by decide
theorem test_queueLaw_at_work : queueLaw atWork := by decide
theorem test_conservationLaw_at_work : conservationLaw atWork := by decide
theorem test_voiceLaw_at_work : voiceLaw atWork := by decide

/-- The witness of the four statements that every step keeps the laws. -/
theorem test_StepsKeepLaws_witness : ∃ t, step atWork = .next t := ⟨_, rfl⟩

end Sys2Proof.Tests
end

section
/-! The statements of the call (chapter 1) and of the Call Port (chapter 9): their lemmas, then the theorems that settle them. -/

namespace Sys2Proof.Machine

open Sys2Proof

/-! ### Requests answered OK (R173, R174) -/

/-- The taking of a request answered OK, when it can be taken: the answer's effect on the state, with the request gone and the reply
in. -/
theorem takeRequest_answered {kind tag : Byte} {body fields : List Byte} {answer : State → Answer} {s t : State}
    (h : takeable ⟨kind, tag, body⟩ s) (ha : answer (dropRequest s) = answerOk fields (dropRequest t)) :
    takeRequest kind tag body answer s = replied (kind + 0x80) tag (0 :: fields) t := by
  rw [takeRequest_of_takeable h, ha]; rfl

/-- A kind is no request kind exactly when it is 0 or above the last request kind (Table 11.1). -/
theorem isRequestKind_eq_false {kind : Byte} (h : kind = 0 ∨ 28 < kind.toNat) : isRequestKind kind = false := by
  rcases h with rfl | h
  · rfl
  · have hn : ¬kind.toNat ≤ 28 := by omega
    simp [isRequestKind, hn]

/-! ### The fields of CALL_OPEN (R4) -/

/-- The byte of a call rate stands for it. -/
theorem rateOfByte_code (r : CallRate) : rateOfByte r.code = some r := by cases r <;> rfl

/-- The byte of a word position stands for it. -/
theorem wordPositionOfByte_code (p : WordPosition) : wordPositionOfByte p.code = some p := by cases p <;> rfl

/-- The byte of a byte order stands for it. -/
theorem byteOrderOfByte_code (o : ByteOrder) : byteOrderOfByte o.code = some o := by cases o <;> rfl

/-- The byte of a loopback setting stands for it. -/
theorem loopbackOfByte_code (l : Loopback) : loopbackOfByte l.code = some l := by cases l <;> rfl

/-- A byte outside the list of call rates stands for none. -/
theorem rateOfByte_of_le {b : Byte} (h : 3 ≤ b.toNat) : rateOfByte b = none := by
  unfold rateOfByte; split <;> [omega; omega; omega; rfl]

/-- A byte outside the list of word positions stands for none. -/
theorem wordPositionOfByte_of_le {b : Byte} (h : 2 ≤ b.toNat) : wordPositionOfByte b = none := by
  unfold wordPositionOfByte; split <;> [omega; omega; rfl]

/-- A byte outside the list of byte orders stands for none. -/
theorem byteOrderOfByte_of_le {b : Byte} (h : 2 ≤ b.toNat) : byteOrderOfByte b = none := by
  unfold byteOrderOfByte; split <;> [omega; omega; rfl]

/-- A byte outside the list of loopback settings stands for none. -/
theorem loopbackOfByte_of_le {b : Byte} (h : 2 ≤ b.toNat) : loopbackOfByte b = none := by
  unfold loopbackOfByte; split <;> [omega; omega; rfl]

/-- CALL_OPEN outside IDLE is refused before its fields are looked at (R4). -/
theorem callOpen_of_not_idle {s : State} (b0 b1 b2 b3 : Byte) (h : s.call.state ≠ .idle) :
    callOpen [b0, b1, b2, b3] s = refuse .badState s := if_neg h

/-- CALL_OPEN in IDLE with fields that stand for values opens the call (R4). -/
theorem callOpen_of_fields {s : State} {b0 b1 b2 b3 : Byte} {r : CallRate} {p : WordPosition} {o : ByteOrder} {l : Loopback}
    (h : s.call.state = .idle) (hr : rateOfByte b0 = some r) (hp : wordPositionOfByte b1 = some p)
    (ho : byteOrderOfByte b2 = some o) (hl : loopbackOfByte b3 = some l) :
    callOpen [b0, b1, b2, b3] s = answerOk [] (openCall r p o l s) := by
  simp only [callOpen, if_pos h, hr, hp, ho, hl]

/-- CALL_OPEN in IDLE with a field that stands for no value is refused (R4). -/
theorem callOpen_of_bad_field {s : State} {b0 b1 b2 b3 : Byte} (h : s.call.state = .idle)
    (hb : rateOfByte b0 = none ∨ wordPositionOfByte b1 = none ∨ byteOrderOfByte b2 = none ∨ loopbackOfByte b3 = none) :
    callOpen [b0, b1, b2, b3] s = refuse .badArg s := by
  simp only [callOpen, if_pos h]
  split
  · next hr hp ho hl => simp [hr, hp, ho, hl] at hb
  · rfl

/-! ### CALL_CLOSE and the lock timeout (R6, R7, R13) -/

/-- CALL_CLOSE in IDLE is refused (R13). -/
theorem callClose_of_idle {s : State} (h : s.call.state = .idle) : callClose [] s = refuse .badState s := by
  simp only [callClose, h]

/-- CALL_CLOSE in OPENING abandons the opening (R7). -/
theorem callClose_of_opening {s : State} (h : s.call.state = .opening) :
    callClose [] s = answerOk [] (abandonOpening .byRequest s) := by
  simp only [callClose, h]

/-- CALL_CLOSE in CLOSING changes nothing (R13). -/
theorem callClose_of_closing {s : State} (h : s.call.state = .closing) : callClose [] s = answerOk [] s := by
  simp only [callClose, h]

/-- CALL_CLOSE in LIVE, HELD and LOST enters CLOSING (R13). -/
theorem callClose_of_call {s : State} (h : s.call.state = .live ∨ s.call.state = .held ∨ s.call.state = .lost) :
    callClose [] s = answerOk [] (enterClosing .byRequest s) := by
  rcases h with h | h | h <;> simp only [callClose, h]

/-- The lock timeout falls 8,000,000 ticks after the open time, in OPENING (R6). -/
theorem lockTimeoutDue_iff (s : State) :
    lockTimeoutDue s = true ↔ s.call.state = .opening ∧ 8000000 ≤ (s.air.timeBase - s.call.openTime).toNat := by
  rw [lockTimeoutDue, Bool.and_eq_true, beq_iff_eq, decide_eq_true_iff, ticksSince]

end Sys2Proof.Machine

open Sys2Proof Sys2Proof.Machine

/-- Settles O3: both resets are `resetPart`, whose values are those of `State.reset`. -/
theorem resetsLeaveResetValues : Obligations.ResetsLeaveResetValues := by
  intro s
  refine ⟨resetPart s, rfl, fun hd => congrArg _ (if_pos hd), rfl, rfl, ?_, ?_, rfl, rfl, rfl, rfl, rfl, ?_, rfl, rfl, rfl, rfl,
    rfl⟩
  · intro i; exact Vector.getElem_replicate i.isLt
  · intro k
    exact ⟨congrArg StreamSlot.state (Vector.getElem_replicate k.isLt), Vector.getElem_replicate k.isLt,
      congrArg RxQueue.state (Vector.getElem_replicate k.isLt)⟩
  · intro src; exact Vector.getElem_replicate src.isLt

/-- Settles O8: each request is taken with the answer its block gives. -/
theorem identityCallGetAndUnknownKinds : Obligations.IdentityCallGetAndUnknownKinds := by
  refine ⟨fun tag s => ⟨fun h => ?_, fun h => ?_, fun kind body hk h => ?_⟩, fun tag s h => ?_⟩
  · exact congrArg _ (takeRequest_answered h rfl)
  · exact congrArg _ (takeRequest_answered (answer := resetSoft [])
      (t := { s with control := { s.control with softReset := .replyOwed } }) h rfl)
  · show Host.Outcome.next _ = _
    rw [if_neg (by simp [isRequestKind_eq_false hk]), takeWith_of_takeable h]
    rfl
  · refine congrArg _ ((takeRequest_answered (answer := callGet []) (t := s) h rfl).trans ?_)
    have hb := bytes4_toNat s.call.blockNumber
    simp only [dropRequest_call, callBytes, hb]
    rfl

/-- Settles O9, by the call state and then by whether the four fields stand for values. -/
theorem callOpenOpensFromIdle : Obligations.CallOpenOpensFromIdle := by
  intro tag b0 b1 b2 b3 s h
  refine ⟨fun hs => ?_, fun hs hb => ?_, fun hs rate position order loop hcode => ?_⟩
  · exact congrArg _ (takeRequest_refused h (callOpen_of_not_idle b0 b1 b2 b3 hs))
  · refine congrArg _ (takeRequest_refused h (callOpen_of_bad_field hs ?_))
    exact hb.imp rateOfByte_of_le (.imp wordPositionOfByte_of_le (.imp byteOrderOfByte_of_le loopbackOfByte_of_le))
  · simp only [List.cons.injEq, and_true] at hcode
    obtain ⟨rfl, rfl, rfl, rfl⟩ := hcode
    exact congrArg _ (takeRequest_answered h (callOpen_of_fields (s := dropRequest s) hs (rateOfByte_code rate)
      (wordPositionOfByte_code position) (byteOrderOfByte_code order) (loopbackOfByte_code loop)))

/-- Settles O10, by the call state. -/
theorem holdAndResumeFollowTable : Obligations.HoldAndResumeFollowTable := by
  intro tag s
  constructor
  · intro h
    refine congrArg _ ((takeRequest_of_takeable h).trans ?_)
    cases hs : s.call.state <;> simp only [callHold, dropRequest_call, hs] <;> rfl
  · intro h
    refine congrArg _ ((takeRequest_of_takeable h).trans ?_)
    cases hs : s.call.state <;> simp only [callResume, dropRequest_call, hs] <;> rfl

/-- Settles O11: CALL_CLOSE by the call state, the timeout by whether it is due. -/
theorem closeAndTimeoutOutsideCall : Obligations.CloseAndTimeoutOutsideCall := by
  refine ⟨fun tag elapsed s ho => ⟨fun h => ?_, fun hdue => ?_, fun hdue => ?_⟩, fun tag s h => ⟨fun hs => ?_, fun hs => ?_⟩⟩
  · exact congrArg _ (takeRequest_answered h (callClose_of_opening (s := dropRequest s) ho))
  · exact congrArg _ (if_pos ((lockTimeoutDue_iff (passTime elapsed s)).2 ⟨ho, hdue⟩))
  · exact congrArg _ (if_neg fun h => by
      have hle := ((lockTimeoutDue_iff (passTime elapsed s)).1 h).2
      exact absurd hdue (Nat.not_lt.2 hle))
  · exact congrArg _ (takeRequest_refused h (callClose_of_idle hs))
  · exact congrArg _ (takeRequest_answered h (callClose_of_closing (s := dropRequest s) hs))

/-- Settles O56: each law, decided on the state after reset. -/
theorem resetKeepsEveryLaw : Obligations.ResetKeepsEveryLaw := by
  refine ⟨?_, ?_, ?_, ?_, ?_, ?_, ?_, ?_, ?_, ?_, ?_, ?_, ?_, ?_, ?_, ?_, ?_, ?_⟩ <;> decide
end

section
/-! The completion of a closing and the entry to CLOSING (R13, R14). -/

namespace Sys2Proof.Machine

open Sys2Proof

/-! ### Occurrences, record by record (R160) -/

/-- The source of an occurrence takes it into its record. -/
theorem Notices.occur_record (src : SourceId) (index : Option Nat) (code : Byte) (value : Count32) (n : Notices) :
    (n.occur src index code value).records[src] = n.records[src].occur index code value := by
  simp [Notices.occur, settleAttention]

/-- An occurrence leaves the records of the other sources. -/
theorem Notices.occur_record_other {src other : SourceId} (h : other ≠ src) (index : Option Nat) (code : Byte) (value : Count32)
    (n : Notices) : (n.occur src index code value).records[other] = n.records[other] := by
  have hv : ¬src.val = other.val := fun e => h (Fin.ext e.symm)
  simp [Notices.occur, settleAttention, hv]

@[simp] theorem Notices.occur_route (src : SourceId) (index : Option Nat) (code : Byte) (value : Count32) (n : Notices) :
    (n.occur src index code value).route = n.route := rfl

@[simp] theorem Notices.occur_classes (src : SourceId) (index : Option Nat) (code : Byte) (value : Count32) (n : Notices) :
    (n.occur src index code value).classes = n.classes := rfl

@[simp] theorem Notices.occur_outstanding (src : SourceId) (index : Option Nat) (code : Byte) (value : Count32) (n : Notices) :
    (n.occur src index code value).outstanding = n.outstanding := rfl

/-! ### What changes of the call leave (R14, R17) -/

/-- What neither the call record, the Call Port, the converters, the stores and the mix nor the sources CALL_STATE and COMMIT_DONE
hold stands: the part of the state that no change of the call and no completion of a closing reaches. -/
structure BesideCallStands (s t : State) : Prop where
  slots : t.slots = s.slots
  queues : t.queues = s.queues
  roster : t.roster = s.roster
  voices : t.voices = s.voices
  watches : t.watches = s.watches
  air : t.air = s.air
  pair : t.pair = s.pair
  keyUnit : t.keyUnit = s.keyUnit
  control : t.control = s.control
  draws : t.draws = s.draws
  pending : t.pending = s.pending
  route : t.notices.route = s.notices.route
  classes : t.notices.classes = s.notices.classes
  outstanding : t.notices.outstanding = s.notices.outstanding
  records : ∀ other : SourceId, other ≠ Source.callState → other ≠ Source.commitDone →
    t.notices.records[other] = s.notices.records[other]

/-- A change of the call stands beside the call. -/
theorem changeCall_beside (c : CallRecord) (s : State) : BesideCallStands s (changeCall c s) where
  slots := rfl
  queues := rfl
  roster := rfl
  voices := rfl
  watches := rfl
  air := rfl
  pair := rfl
  keyUnit := rfl
  control := rfl
  draws := rfl
  pending := rfl
  route := rfl
  classes := rfl
  outstanding := rfl
  records := fun _ h _ => Notices.occur_record_other h _ _ _ _

/-- The occurrence of a change of the call (R17). -/
theorem changeCall_record (c : CallRecord) (s : State) :
    (changeCall c s).notices.records[Source.callState]
      = ⟨true, saturatingSucc 255 s.notices.records[Source.callState].occurrences,
        s.notices.records[Source.callState].indexSet, c.state.code, c.closeReason.code.zeroExtend 32⟩ :=
  Notices.occur_record _ _ _ _ _

/-! ### The completion of a closing (R14) -/

/-- The notices after the commit that a completed closing carries out: COMMIT_DONE AT_ONCE, if one was pending (R124). -/
theorem commitAtClosing_notices (s : State) :
    (commitAtClosing s).notices
      = if s.mix.commitPending then s.notices.occur Source.commitDone none 1 0 else s.notices := by
  unfold commitAtClosing; split <;> rfl

/-- The commit that a completed closing carries out reaches the mix and the notices (R124). -/
theorem commitAtClosing_fields (s : State) :
    commitAtClosing s
      = { s with mix := if s.mix.commitPending then s.mix.copied else s.mix, notices := (commitAtClosing s).notices } := by
  unfold commitAtClosing; split <;> rfl

/-- The completion of a closing, whole (R14). -/
theorem completeClosing_eq (s : State) :
    completeClosing s = { s with
      call := { s.call with state := .idle }
      port := s.port.stop
      convs := s.convs.map (Converter.closed s.blockSamples)
      stores := Vector.replicate 4 []
      mix := if s.mix.commitPending then s.mix.copied else s.mix
      notices := (if s.mix.commitPending then s.notices.occur Source.commitDone none 1 0 else s.notices).occur
        Source.callState none 0 (s.call.closeReason.code.zeroExtend 32) } := by
  unfold completeClosing changeCall raise
  rw [commitAtClosing_fields, commitAtClosing_notices]
  rfl

/-- The notices of a completed closing but for those of CALL_STATE: the commit's. -/
theorem completeClosing_record_other {other : SourceId} (h : other ≠ Source.callState) (s : State) :
    (completeClosing s).notices.records[other]
      = (if s.mix.commitPending then s.notices.occur Source.commitDone none 1 0 else s.notices).records[other] := by
  rw [completeClosing_eq]
  exact Notices.occur_record_other h _ _ _ _

/-- The completion of a closing stands beside the call. -/
theorem completeClosing_beside (s : State) : BesideCallStands s (completeClosing s) := by
  refine ⟨?_, ?_, ?_, ?_, ?_, ?_, ?_, ?_, ?_, ?_, ?_, ?_, ?_, ?_, fun other hc hd => ?_⟩
  case refine_15 =>
    rw [completeClosing_record_other hc]
    split
    · exact Notices.occur_record_other hd _ _ _ _
    · rfl
  all_goals rw [completeClosing_eq]
  all_goals dsimp only [Notices.occur_route, Notices.occur_classes, Notices.occur_outstanding]
  all_goals split <;> rfl

/-- The completion of a closing does to the port, the converters, the stores and the mix what R14 says. -/
theorem completeClosing_done (s : State) : closingDone s (completeClosing s) := by
  refine ⟨?_, fun j => ?_, fun j => ?_, ?_, ?_⟩
  case refine_5 =>
    rw [completeClosing_record_other (by decide)]
    split
    · exact Notices.occur_record _ _ _ _ _
    · rfl
  all_goals rw [completeClosing_eq]
  · rfl
  · exact Vector.getElem_replicate j.isLt
  · exact Vector.getElem_map _ j.isLt
  · rfl

/-- The occurrence of a completed closing: IDLE, with the close reason (R14, R17). -/
theorem completeClosing_record (s : State) :
    (completeClosing s).notices.records[Source.callState]
      = ⟨true, saturatingSucc 255 s.notices.records[Source.callState].occurrences,
        s.notices.records[Source.callState].indexSet, 0, s.call.closeReason.code.zeroExtend 32⟩ := by
  rw [completeClosing_eq]
  refine (Notices.occur_record _ _ _ _ _).trans ?_
  split
  · rw [Notices.occur_record_other (by decide)]; rfl
  · rfl

/-! ### The freeing of the last slot (R14, R68, R69) -/

/-- Every slot is FREE, said slot by slot. -/
theorem allFree_iff (s : State) : allFree s = true ↔ ∀ k : SlotId, s.slots[k].state = .free := by
  simp [allFree]

/-- The freeing of a slot that completes a closing. -/
theorem freeSlot_of_completes {k : SlotId} {s : State} (h : completesClosing k s) :
    freeSlot k s = completeClosing (slotFreed k s) := by
  rw [freeSlot, releaseSlot_eq]
  refine if_pos ⟨h.1, (allFree_iff _).2 fun j => ?_⟩
  by_cases hj : j = k
  · subst hj; simp [StreamSlot.reset]
  · have hv : ¬k.val = j.val := fun e => hj (Fin.ext e.symm)
    simpa [hv] using h.2 j hj

/-- A leave whose third LEAVE went unanswered frees the slot (R68). -/
theorem leaveUnanswered_of_due {k : SlotId} {s : State} (h : s.slots[k].state = .leaving) (hc : 3 ≤ s.slots[k].intervalCount) :
    leaveUnanswered k s = freeSlot k s := if_pos ⟨h, hc⟩

/-- A LEAVE_ACK of the slot's earbud in the slot's turn frees it (R56, R68). -/
theorem leaveAck_of_taken {k : SlotId} {h : AirHeader} {s : State} (hl : s.slots[k].state = .leaving)
    (hu : s.air.use = .uplink k .leaving) (he : fromEarbud k h s) : leaveAck h s = freeSlot k s := by
  have hk : leaveAckFor h s = some k := by
    simp only [leaveAckFor, hu]
    exact if_pos ⟨hl, (fromSlotEarbud_iff k h s).2 he⟩
  simp only [leaveAck, hk]

/-- The link loss of a LEAVING slot waits when its supervision count is 50 and its leave goes on (R69). -/
theorem linkLossDue_of_leaving {x : StreamSlot} (hl : x.state = .leaving) (hc : x.intervalCount < 3) (hs : 50 ≤ x.supervision) :
    linkLossDue x = true := by
  simp [linkLossDue, hl, hc, hs]

/-- The link loss of a LEAVING slot frees it and is told (R69). -/
theorem linkLoss_of_leaving {k : SlotId} {s : State} (hl : s.slots[k].state = .leaving) (hc : s.slots[k].intervalCount < 3)
    (hs : 50 ≤ s.slots[k].supervision) : linkLoss k s = raiseAt Source.linkLoss 1 k (freeSlot k s) := by
  have he : endStream k s = s := if_neg (by rw [hl]; decide)
  rw [linkLoss, if_pos (linkLossDue_of_leaving hl hc hs), he]

end Sys2Proof.Machine

open Sys2Proof Sys2Proof.Machine

/-- Settles O27: each of the three events frees the slot, and the freeing of the last slot is the completion of the closing. -/
theorem lastSlotCompletesClosing : Obligations.LastSlotCompletesClosing := by
  intro h k s hc hl
  have hf := freeSlot_of_completes hc
  have hb := completeClosing_beside (slotFreed k s)
  refine ⟨completeClosing (slotFreed k s), fun hn => ?_, fun hu he => ?_, fun hn hs => ?_, ?_, hb.slots, hb.roster,
    completeClosing_done (slotFreed k s), completeClosing_record (slotFreed k s), hb.records, hb.route, hb.classes,
    hb.outstanding, hb.queues, hb.voices, hb.watches, hb.pair, hb.air, hb.control, hb.keyUnit, hb.draws, hb.pending⟩
  · exact congrArg _ ((leaveUnanswered_of_due hl hn).trans hf)
  · exact congrArg _ ((leaveAck_of_taken hl hu he).trans hf)
  · exact congrArg _ (hf ▸ linkLoss_of_leaving hl hn hs)
  · rw [completeClosing_eq]
end

section
/-! The entry to CLOSING (R13, R14). -/

namespace Sys2Proof.Machine

open Sys2Proof

/-! ### A step taken for the four slots in order -/

/-- What every step of the four keeps, transitively, the four keep. -/
theorem forEachSlot_of_trans {R : State → State → Prop} (trans : ∀ {s t u : State}, R s t → R t u → R s u)
    {f : SlotId → State → State} (h : ∀ k s, R s (f k s)) (s : State) : R s (forEachSlot f s) :=
  trans (trans (trans (h 0 s) (h 1 _)) (h 2 _)) (h 3 _)

/-- A step that reaches what slot `k` holds by `g`, and nothing that another slot holds, reaches it by `g` once in the four. -/
theorem forEachSlot_view {β : Type} {f : SlotId → State → State} {view : SlotId → State → β} {g : β → β}
    (same : ∀ k s, view k (f k s) = g (view k s)) (other : ∀ j k s, j ≠ k → view j (f k s) = view j s) (k : SlotId) (s : State) :
    view k (forEachSlot f s) = g (view k s) := by
  unfold forEachSlot
  match k with
  | 0 => rw [other 0 3 _ (by decide), other 0 2 _ (by decide), other 0 1 _ (by decide), same]
  | 1 => rw [other 1 3 _ (by decide), other 1 2 _ (by decide), same, other 1 0 _ (by decide)]
  | 2 => rw [other 2 3 _ (by decide), same, other 2 1 _ (by decide), other 2 0 _ (by decide)]
  | 3 => rw [same, other 3 2 _ (by decide), other 3 1 _ (by decide), other 3 0 _ (by decide)]

/-- What the four steps make of a common value, by what each slot holds before them: the fold over the slots. -/
theorem forEachSlot_fold {β γ : Type} {f : SlotId → State → State} {view : SlotId → State → β} {acc : State → γ}
    {g : SlotId → β → γ → γ} (other : ∀ j k s, j ≠ k → view j (f k s) = view j s)
    (step : ∀ k s, acc (f k s) = g k (view k s) (acc s)) (s : State) :
    acc (forEachSlot f s) = ([0, 1, 2, 3] : List SlotId).foldl (fun a k => g k (view k s) a) (acc s) := by
  unfold forEachSlot
  rw [step, step, step, step, other 3 2 _ (by decide), other 3 1 _ (by decide), other 3 0 _ (by decide),
    other 2 1 _ (by decide), other 2 0 _ (by decide), other 1 0 _ (by decide)]
  rfl

/-! ### The notices of a member's removal (R139) -/

/-- The removal of a member switches the winner with code ABSENCE, or not at all (R139). -/
theorem remove_switch (k : SlotId) (v : Voice) : (v.remove k).2 = if switchesWinner k v then some 2 else none := by
  have hm : v.hasMember k = true ↔ v.left = some k ∨ v.right = some k ∨ v.mono = some k := by
    simp [Voice.hasMember, or_assoc]
  have ha : (v.without k).anyMember = remainingMember k v := rfl
  by_cases h : v.hasMember k = true
  · have hs : switchesWinner k v ↔ remainingMember k v ≠ none ∧ v.winner = some k := and_iff_right (hm.1 h)
    simp only [hs, Voice.remove, if_pos h, ha]
    generalize remainingMember k v = r
    cases r with
    | none => simp
    | some m => by_cases hw : v.winner = some k <;> simp [hw]
  · rw [Voice.remove, if_neg h, if_neg fun ⟨hs, _⟩ => h (hm.2 hs)]

/-- The record of VOICE_SWITCH once slot `k` has been removed from voice `i`. -/
def switchTold (k : SlotId) (i : VoiceId) (v : Voice) (r : SourceRecord) : SourceRecord :=
  if switchesWinner k v then r.occur (some i.val) 2 (BitVec.ofNat 32 i.val) else r

/-- The notices of a removal from one voice (R139, R144). -/
theorem removeFromVoice_notices (i : VoiceId) (k : SlotId) (s : State) :
    (removeFromVoice i k s).notices = if switchesWinner k s.voices[i] then
      s.notices.occur Source.voiceSwitch (some i.val) 2 (BitVec.ofNat 32 i.val) else s.notices := by
  rw [removeFromVoice, remove_switch]
  split <;> rfl

/-- The other voice stands when a slot is removed from one. -/
theorem removeFromVoice_voices (k : SlotId) (s : State) :
    (removeFromVoice 0 k s).voices[(1 : VoiceId)] = s.voices[(1 : VoiceId)] := by
  rw [removeFromVoice, raiseSwitch_fields]
  simp

/-- The record of VOICE_SWITCH once slot `k` has been removed from its voice (R139). -/
theorem removeMember_record (k : SlotId) (s : State) :
    (removeMember k s).notices.records[Source.voiceSwitch]
      = switchTold k 1 s.voices[1] (switchTold k 0 s.voices[0] s.notices.records[Source.voiceSwitch]) := by
  have hone : ∀ (i : VoiceId) (u : State), (removeFromVoice i k u).notices.records[Source.voiceSwitch]
      = switchTold k i u.voices[i] u.notices.records[Source.voiceSwitch] := by
    intro i u
    rw [removeFromVoice_notices, switchTold]
    split
    · exact Notices.occur_record _ _ _ _ _
    · rfl
  rw [removeMember, hone, removeFromVoice_voices, hone]
  rfl

/-- What a removal of a member leaves of the notices: all but the record of VOICE_SWITCH. -/
theorem removeMember_told (k : SlotId) (s : State) :
    (removeMember k s).notices.route = s.notices.route ∧ (removeMember k s).notices.classes = s.notices.classes
      ∧ (removeMember k s).notices.outstanding = s.notices.outstanding
      ∧ ∀ other : SourceId, other ≠ Source.voiceSwitch →
        (removeMember k s).notices.records[other] = s.notices.records[other] := by
  have hone : ∀ (i : VoiceId) (u : State), (removeFromVoice i k u).notices.route = u.notices.route
      ∧ (removeFromVoice i k u).notices.classes = u.notices.classes
      ∧ (removeFromVoice i k u).notices.outstanding = u.notices.outstanding
      ∧ ∀ other : SourceId, other ≠ Source.voiceSwitch →
        (removeFromVoice i k u).notices.records[other] = u.notices.records[other] := by
    intro i u
    rw [removeFromVoice_notices]
    split
    · exact ⟨rfl, rfl, rfl, fun other h => Notices.occur_record_other h _ _ _ _⟩
    · exact ⟨rfl, rfl, rfl, fun _ _ => rfl⟩
  obtain ⟨r0, c0, o0, n0⟩ := hone 0 s
  obtain ⟨r1, c1, o1, n1⟩ := hone 1 (removeFromVoice 0 k s)
  exact ⟨r1.trans r0, c1.trans c0, o1.trans o0, fun other h => (n1 other h).trans (n0 other h)⟩

/-! ### One slot at the entry to CLOSING (R13, R59, R66) -/

/-- What the part holds of a stream: its slot, its receive queue, its converter and its downlink store. -/
structure Stream where
  slot : StreamSlot
  queue : RxQueue
  conv : Converter
  store : List Block

/-- What the part holds of stream `k`. -/
def streamAt (k : SlotId) (s : State) : Stream := ⟨s.slots[k], s.queues[k], s.convs[k], s.stores[k]⟩

/-- A stream at the entry to CLOSING: a JOINING slot FREE, a STREAMING one LEAVING with its stream ended (R13). -/
def Stream.sentAway (x : Stream) : Stream :=
  match x.slot.state with
  | .free => x
  | .joining => { x with slot := StreamSlot.reset }
  | .streaming =>
    ⟨{ x.slot with state := .leaving, intervalCount := 0, carried := .nothing, lastSent := none, retryCandidate := false },
      x.queue.flush, x.conv.leaveStreaming, []⟩
  | .leaving => x

/-- A vector reads at another index as before it was set. -/
theorem set_get_other {α : Type} {n : Nat} (v : Vector α n) {j k : Fin n} (h : j ≠ k) (x : α) : (v.set k x)[j] = v[j] := by
  have hv : ¬k.val = j.val := fun e => h (Fin.ext e.symm)
  simp [hv]

/-- A slot that enters LEAVING, whole, but for the notices (R66). -/
theorem enterLeaving_fields (k : SlotId) (s : State) :
    enterLeaving k s = { s with
      slots := s.slots.set k { s.slots[k] with
        state := .leaving, intervalCount := 0, carried := .nothing, lastSent := none, retryCandidate := false }
      queues := s.queues.set k s.queues[k].flush
      convs := s.convs.set k s.convs[k].leaveStreaming
      stores := s.stores.set k []
      voices := (leaveStreaming k s).voices
      notices := (leaveStreaming k s).notices } := by
  obtain ⟨hq, hc, hst, hsl, hr, -, r1, r2, r3, r4, r5, r6, r7, r8, r9, r10⟩ := leaveStreaming_spec k s
  simp only [enterLeaving, State.setSlot, hq, hc, hst, hsl, hr, r1, r2, r3, r4, r5, r6, r7, r8, r9, r10, set_get]
  congr 1
  simp

/-- The record of VOICE_SWITCH after a slot has left STREAMING (R66, R139). -/
theorem leaveStreaming_record (k : SlotId) (s : State) :
    (leaveStreaming k s).notices.records[Source.voiceSwitch]
      = switchTold k 1 s.voices[1] (switchTold k 0 s.voices[0] s.notices.records[Source.voiceSwitch]) :=
  removeMember_record k _

/-- What a slot's leaving of STREAMING leaves of the notices: all but the record of VOICE_SWITCH. -/
theorem leaveStreaming_told (k : SlotId) (s : State) :
    (leaveStreaming k s).notices.route = s.notices.route ∧ (leaveStreaming k s).notices.classes = s.notices.classes
      ∧ (leaveStreaming k s).notices.outstanding = s.notices.outstanding
      ∧ ∀ other : SourceId, other ≠ Source.voiceSwitch →
        (leaveStreaming k s).notices.records[other] = s.notices.records[other] :=
  removeMember_told k _

/-- What the sending away of a slot can be, by the slot's state (R13). -/
theorem closeSlot_cases (k : SlotId) (s : State) :
    (s.slots[k].state = .joining ∧ closeSlot k s = raiseAt Source.joinResult 7 k (slotFreed k s))
      ∨ (s.slots[k].state = .streaming ∧ closeSlot k s = enterLeaving k s)
      ∨ (s.slots[k].state ≠ .joining ∧ s.slots[k].state ≠ .streaming ∧ closeSlot k s = s) := by
  cases h : s.slots[k].state with
  | joining => exact .inl ⟨rfl, by simp only [closeSlot, h, joinResult, releaseSlot_eq]⟩
  | streaming => exact .inr (.inl ⟨rfl, by simp only [closeSlot, h]⟩)
  | free => exact .inr (.inr ⟨nofun, nofun, by simp only [closeSlot, h]⟩)
  | leaving => exact .inr (.inr ⟨nofun, nofun, by simp only [closeSlot, h]⟩)

/-- A stream whose slot is neither JOINING nor STREAMING stands. -/
theorem Stream.sentAway_of_other {x : Stream} (hj : x.slot.state ≠ .joining) (hs : x.slot.state ≠ .streaming) :
    x.sentAway = x := by
  unfold Stream.sentAway
  split <;> [rfl; contradiction; contradiction; rfl]

/-- The stream of a slot sent away. -/
theorem streamAt_closeSlot_same (k : SlotId) (s : State) : streamAt k (closeSlot k s) = (streamAt k s).sentAway := by
  rcases closeSlot_cases k s with ⟨h, he⟩ | ⟨h, he⟩ | ⟨hj, hs, he⟩
  · rw [he]
    simp only [Stream.sentAway, streamAt, h, raiseAt_slots, raiseAt_queues, raiseAt_convs, raiseAt_stores, set_get]
  · rw [he, enterLeaving_fields]
    simp only [Stream.sentAway, streamAt, h, set_get]
  · rw [he, Stream.sentAway_of_other hj hs]

/-- The other streams stand when a slot is sent away. -/
theorem streamAt_closeSlot_other (j k : SlotId) (s : State) (hj : j ≠ k) : streamAt j (closeSlot k s) = streamAt j s := by
  rcases closeSlot_cases k s with ⟨-, he⟩ | ⟨-, he⟩ | ⟨-, -, he⟩
  · rw [he]
    simp only [streamAt, raiseAt_slots, raiseAt_queues, raiseAt_convs, raiseAt_stores, set_get_other _ hj]
  · rw [he, enterLeaving_fields]
    simp only [streamAt, set_get_other _ hj]
  · rw [he]

/-- The roster once a slot's entry has been released (R59). -/
theorem releaseEntry_roster (entry : Option EntryId) (i : EntryId) (s : State) :
    (releaseEntry entry s).roster[i] = if entry = some i then s.roster[i].left else s.roster[i] := by
  cases entry with
  | none => rfl
  | some m =>
    by_cases hm : m = i
    · subst hm; rw [if_pos rfl]; exact set_get _ _ _
    · rw [if_neg (by simpa using hm)]; exact set_get_other _ (Ne.symm hm) _

/-- A roster entry once a stream slot that may refer to it is sent away: a join's entry is BONDED (R59). -/
def RosterEntry.sentAway (i : EntryId) (x : Stream) (e : RosterEntry) : RosterEntry :=
  if x.slot.state = .joining ∧ x.slot.rosterIndex = some i then e.left else e

/-- The roster once slot `k` has been sent away. -/
theorem closeSlot_roster (i : EntryId) (k : SlotId) (s : State) :
    (closeSlot k s).roster[i] = s.roster[i].sentAway i (streamAt k s) := by
  rcases closeSlot_cases k s with ⟨h, he⟩ | ⟨h, he⟩ | ⟨hj, -, he⟩
  · have hr : (slotFreed k s).roster = (releaseEntry s.slots[k].rosterIndex s).roster := by rw [← releaseSlot_eq]; rfl
    rw [he, raiseAt_roster, hr, releaseEntry_roster]
    simp only [RosterEntry.sentAway, streamAt, h, true_and]
  · rw [he, enterLeaving_fields]; simp only [RosterEntry.sentAway, streamAt, h]; rfl
  · rw [he]; exact (if_neg fun ⟨h, _⟩ => hj h).symm

/-- A voice once a stream that may be its member is sent away. -/
def Voice.sentAway (k : SlotId) (x : Stream) (v : Voice) : Voice :=
  if x.slot.state = .streaming then voiceWithout k v else v

/-- The voices once slot `k` has been sent away (R139). -/
theorem closeSlot_voices (i : VoiceId) (k : SlotId) (s : State) :
    (closeSlot k s).voices[i] = s.voices[i].sentAway k (streamAt k s) := by
  rcases closeSlot_cases k s with ⟨h, he⟩ | ⟨h, he⟩ | ⟨-, hs, he⟩
  · rw [he]; simp only [Voice.sentAway, streamAt, h]; rfl
  · obtain ⟨-, -, -, -, -, hv, -⟩ := leaveStreaming_spec k s
    rw [he, enterLeaving_fields]
    simp only [Voice.sentAway, streamAt, h]
    exact hv i
  · rw [he]; exact (if_neg hs).symm

/-- The record of JOIN_RESULT once a join is sent away (R64). -/
def SourceRecord.joinClosed (k : SlotId) (x : Stream) (r : SourceRecord) : SourceRecord :=
  if x.slot.state = .joining then r.occur (some k.val) 7 (BitVec.ofNat 32 k.val) else r

/-- The record of JOIN_RESULT once slot `k` has been sent away. -/
theorem closeSlot_joinRecord (k : SlotId) (s : State) :
    (closeSlot k s).notices.records[Source.joinResult]
      = s.notices.records[Source.joinResult].joinClosed k (streamAt k s) := by
  rcases closeSlot_cases k s with ⟨h, he⟩ | ⟨h, he⟩ | ⟨hj, -, he⟩
  · rw [he]
    simp only [SourceRecord.joinClosed, streamAt, h]
    exact Notices.occur_record _ _ _ _ _
  · obtain ⟨-, -, -, hn⟩ := leaveStreaming_told k s
    rw [he, enterLeaving_fields]
    simp only [SourceRecord.joinClosed, streamAt, h]
    exact hn _ (by decide)
  · rw [he]; exact (if_neg hj).symm

/-- The record of VOICE_SWITCH, and the voices that decide it. -/
structure SwitchView where
  voices : VoiceId → Voice
  record : SourceRecord

/-- The voices of a state with the record of VOICE_SWITCH. -/
def switchView (s : State) : SwitchView := ⟨fun i => s.voices[i], s.notices.records[Source.voiceSwitch]⟩

/-- The voices and the record of VOICE_SWITCH once a stream is sent away (R139, R144). -/
def SwitchView.sentAway (k : SlotId) (x : Stream) (w : SwitchView) : SwitchView where
  voices := fun i => (w.voices i).sentAway k x
  record := if x.slot.state = .streaming then switchTold k 1 (w.voices 1) (switchTold k 0 (w.voices 0) w.record) else w.record

/-- The voices and the record of VOICE_SWITCH once slot `k` has been sent away. -/
theorem closeSlot_switchView (k : SlotId) (s : State) :
    switchView (closeSlot k s) = (switchView s).sentAway k (streamAt k s) := by
  have hv : (switchView (closeSlot k s)).voices = ((switchView s).sentAway k (streamAt k s)).voices :=
    funext fun i => closeSlot_voices i k s
  have hr : (switchView (closeSlot k s)).record = ((switchView s).sentAway k (streamAt k s)).record := by
    rcases closeSlot_cases k s with ⟨h, he⟩ | ⟨h, he⟩ | ⟨-, hs, he⟩
    · rw [he]
      simp only [SwitchView.sentAway, streamAt, h]
      exact Notices.occur_record_other (by decide) _ _ _ _
    · rw [he, enterLeaving_fields]
      simp only [SwitchView.sentAway, streamAt, h]
      exact leaveStreaming_record k s
    · rw [he]; exact (if_neg hs).symm
  exact congr (congrArg SwitchView.mk hv) hr

/-- What neither the streams, the roster and the voices nor the sources JOIN_RESULT and VOICE_SWITCH hold stands: the part of the
state that the sending away of a slot does not reach. -/
structure BesideSlotsStands (s t : State) : Prop where
  rest : restStands s t
  route : t.notices.route = s.notices.route
  classes : t.notices.classes = s.notices.classes
  outstanding : t.notices.outstanding = s.notices.outstanding
  records : ∀ other : SourceId, other ≠ Source.joinResult → other ≠ Source.voiceSwitch →
    t.notices.records[other] = s.notices.records[other]

theorem BesideSlotsStands.refl (s : State) : BesideSlotsStands s s :=
  ⟨⟨rfl, rfl, rfl, rfl, rfl, rfl, rfl, rfl, rfl, rfl⟩, rfl, rfl, rfl, fun _ _ _ => rfl⟩

theorem BesideSlotsStands.trans {s t u : State} (h : BesideSlotsStands s t) (g : BesideSlotsStands t u) :
    BesideSlotsStands s u := by
  obtain ⟨⟨h1, h2, h3, h4, h5, h6, h7, h8, h9, h10⟩, hr, hc, ho, hn⟩ := h
  obtain ⟨⟨g1, g2, g3, g4, g5, g6, g7, g8, g9, g10⟩, gr, gc, go, gn⟩ := g
  exact ⟨⟨g1.trans h1, g2.trans h2, g3.trans h3, g4.trans h4, g5.trans h5, g6.trans h6, g7.trans h7, g8.trans h8, g9.trans h9,
    g10.trans h10⟩, gr.trans hr, gc.trans hc, go.trans ho, fun other hj hv => (gn other hj hv).trans (hn other hj hv)⟩

/-- The sending away of a slot stands beside the slots. -/
theorem closeSlot_beside (k : SlotId) (s : State) : BesideSlotsStands s (closeSlot k s) := by
  rcases closeSlot_cases k s with ⟨-, he⟩ | ⟨-, he⟩ | ⟨-, -, he⟩
  · rw [he]
    exact ⟨⟨rfl, rfl, rfl, rfl, rfl, rfl, rfl, rfl, rfl, rfl⟩, rfl, rfl, rfl,
      fun other hj _ => Notices.occur_record_other hj _ _ _ _⟩
  · obtain ⟨hr, hc, ho, hn⟩ := leaveStreaming_told k s
    rw [he, enterLeaving_fields]
    exact ⟨⟨rfl, rfl, rfl, rfl, rfl, rfl, rfl, rfl, rfl, rfl⟩, hr, hc, ho, fun other _ hv => hn other hv⟩
  · rw [he]; exact .refl s

end Sys2Proof.Machine
end

section
/-! The entry to CLOSING, whole (R13, R14). -/

namespace Sys2Proof.Machine

open Sys2Proof

/-! ### What the slots' sending away in order adds up to -/

section
variable (x : SlotId → Stream)

/-- An entry that no join sent away refers to stands. -/
theorem foldl_entry_of_none (i : EntryId) (l : List SlotId) (e : RosterEntry)
    (h : ∀ k ∈ l, ¬((x k).slot.state = .joining ∧ (x k).slot.rosterIndex = some i)) :
    l.foldl (fun a k => a.sentAway i (x k)) e = e := by
  induction l with
  | nil => rfl
  | cons k l ih =>
    rw [List.foldl_cons, RosterEntry.sentAway, if_neg (h k List.mem_cons_self)]
    exact ih fun j hj => h j (List.mem_cons_of_mem k hj)

/-- An entry marked BONDED stays so. -/
theorem RosterEntry.left_left (e : RosterEntry) : e.left.left = e.left := by cases e <;> rfl

/-- An entry that a join sent away refers to is BONDED. -/
theorem foldl_entry_of_some (i : EntryId) (l : List SlotId) (e : RosterEntry)
    (h : ∃ k ∈ l, (x k).slot.state = .joining ∧ (x k).slot.rosterIndex = some i) :
    l.foldl (fun a k => a.sentAway i (x k)) e = e.left := by
  induction l generalizing e with
  | nil => obtain ⟨k, hk, -⟩ := h; cases hk
  | cons k l ih =>
    rw [List.foldl_cons]
    by_cases hl : ∃ j ∈ l, (x j).slot.state = .joining ∧ (x j).slot.rosterIndex = some i
    · rw [ih _ hl, RosterEntry.sentAway]
      split
      · exact e.left_left
      · rfl
    · have hk : (x k).slot.state = .joining ∧ (x k).slot.rosterIndex = some i := by
        obtain ⟨j, hj, hx⟩ := h
        rcases List.mem_cons.1 hj with rfl | hj
        · exact hx
        · exact absurd ⟨j, hj, hx⟩ hl
      rw [foldl_entry_of_none x i l _ fun j hj hx => hl ⟨j, hj, hx⟩, RosterEntry.sentAway, if_pos hk]

/-- With no join sent away JOIN_RESULT stands. -/
theorem foldl_joinClosed_of_none (l : List SlotId) (r : SourceRecord) (h : ∀ k ∈ l, (x k).slot.state ≠ .joining) :
    l.foldl (fun a k => a.joinClosed k (x k)) r = r := by
  induction l with
  | nil => rfl
  | cons k l ih =>
    rw [List.foldl_cons, SourceRecord.joinClosed, if_neg (h k List.mem_cons_self)]
    exact ih fun j hj => h j (List.mem_cons_of_mem k hj)

/-- A member of an index set to which another has been added (R173). -/
theorem IndexSet.with_getLsbD (j k : SlotId) (set : IndexSet) :
    (IndexSet.with k.val set).getLsbD j.val = (set.getLsbD j.val || decide (k = j)) := by
  have hb : ∀ j k : SlotId, (BitVec.ofNat 8 (2 ^ k.val)).getLsbD j.val = decide (k = j) := by decide
  rw [IndexSet.with, BitVec.getLsbD_or, hb]

/-- The index set of JOIN_RESULT takes the joins sent away. -/
theorem foldl_joinClosed_indexSet (j : SlotId) (l : List SlotId) (r : SourceRecord) :
    (l.foldl (fun a k => a.joinClosed k (x k)) r).indexSet.getLsbD j.val
      = (r.indexSet.getLsbD j.val || (decide (j ∈ l) && (x j).slot.state == .joining)) := by
  induction l generalizing r with
  | nil => simp
  | cons k l ih =>
    rw [List.foldl_cons, ih]
    have hk : (r.joinClosed k (x k)).indexSet.getLsbD j.val
        = (r.indexSet.getLsbD j.val || (decide (k = j) && (x j).slot.state == .joining)) := by
      unfold SourceRecord.joinClosed
      by_cases hs : (x k).slot.state = .joining
      · rw [if_pos hs]
        refine (IndexSet.with_getLsbD j k r.indexSet).trans ?_
        by_cases hj : k = j
        · subst hj; simp [hs]
        · simp [hj]
      · rw [if_neg hs]
        by_cases hj : k = j
        · subst hj; simp [hs]
        · simp [hj]
    rw [hk, Bool.or_assoc, ← Bool.and_or_distrib_right, ← Bool.decide_or]
    simp only [List.mem_cons, eq_comm (a := j)]

/-- The last join sent away is the latest that JOIN_RESULT tells of. -/
theorem foldl_joinClosed_last {l pre post : List SlotId} {k : SlotId} (r : SourceRecord) (hl : l = pre ++ k :: post)
    (hk : (x k).slot.state = .joining) (hpost : ∀ j ∈ post, (x j).slot.state ≠ .joining) :
    ∃ earlier : SourceRecord, l.foldl (fun a k => a.joinClosed k (x k)) r
      = earlier.occur (some k.val) 7 (BitVec.ofNat 32 k.val) := by
  refine ⟨pre.foldl (fun a k => a.joinClosed k (x k)) r, ?_⟩
  rw [hl, List.foldl_append, List.foldl_cons, foldl_joinClosed_of_none x post _ hpost, SourceRecord.joinClosed, if_pos hk]

/-- VOICE_SWITCH has been told with code ABSENCE. -/
def SourceRecord.toldAbsence (r : SourceRecord) : Prop := r.asserted = true ∧ r.latestCode = 2

/-- A removal that may switch a winner leaves the word of one that has. -/
theorem switchTold_keeps (k : SlotId) (i : VoiceId) (v : Voice) {r : SourceRecord} (h : r.toldAbsence) :
    (switchTold k i v r).toldAbsence := by
  unfold switchTold
  split
  · exact ⟨rfl, rfl⟩
  · exact h

/-- A removal that switches a winner tells it. -/
theorem switchTold_of_switches {k : SlotId} {v : Voice} (i : VoiceId) (r : SourceRecord) (h : switchesWinner k v) :
    (switchTold k i v r).toldAbsence := by
  rw [switchTold, if_pos h]
  exact ⟨rfl, rfl⟩

/-- The word of a switch stays as streams are sent away. -/
theorem SwitchView.foldl_keeps (l : List SlotId) {w : SwitchView} (h : w.record.toldAbsence) :
    (l.foldl (fun a k => a.sentAway k (x k)) w).record.toldAbsence := by
  induction l generalizing w with
  | nil => exact h
  | cons k l ih =>
    refine ih ?_
    unfold SwitchView.sentAway
    dsimp only
    split
    · exact switchTold_keeps k 1 _ (switchTold_keeps k 0 _ h)
    · exact h

/-- A stream sent away whose removal switches a winner tells it. -/
theorem SwitchView.sentAway_of_switches {k : SlotId} {v : VoiceId} {w : SwitchView} (hk : (x k).slot.state = .streaming)
    (h : switchesWinner k (w.voices v)) : (w.sentAway k (x k)).record.toldAbsence := by
  simp only [SwitchView.sentAway, if_pos hk]
  match v with
  | 0 => exact switchTold_keeps k 1 _ (switchTold_of_switches 0 _ h)
  | 1 => exact switchTold_of_switches 1 _ h

/-- A voice stands while the streams sent away are none of its members. -/
theorem SwitchView.foldl_voice_of_none (v : VoiceId) (l : List SlotId) {w : SwitchView}
    (h : ∀ k ∈ l, (x k).slot.state = .streaming → (w.voices v).hasMember k = false) :
    (l.foldl (fun a k => a.sentAway k (x k)) w).voices v = w.voices v := by
  induction l generalizing w with
  | nil => rfl
  | cons k l ih =>
    have hk : (w.sentAway k (x k)).voices v = w.voices v := by
      show (w.voices v).sentAway k (x k) = w.voices v
      unfold Voice.sentAway
      split
      · next hs =>
        have hm := h k List.mem_cons_self hs
        simp only [Voice.hasMember, Bool.or_eq_false_iff, beq_eq_false_iff_ne, ne_eq] at hm
        obtain ⟨⟨hl, hr⟩, hmono⟩ := hm
        exact if_neg (by rintro (e | e | e) <;> contradiction)
      · rfl
    rw [List.foldl_cons, ih, hk]
    intro j hj hs
    rw [hk]
    exact h j (List.mem_cons_of_mem k hj) hs

/-- The removal of a slot that is not the winner leaves the winner, or none. -/
theorem voiceWithout_winner {k : SlotId} {v : Voice} (h : v.winner ≠ some k) :
    (voiceWithout k v).winner = none ∨ (voiceWithout k v).winner = v.winner := by
  unfold voiceWithout
  split
  · dsimp only
    split
    · exact .inl rfl
    · exact .inr rfl
  · exact .inr rfl

/-- With no winner among the streams sent away VOICE_SWITCH stands. -/
theorem SwitchView.foldl_record_of_none (l : List SlotId) {w : SwitchView}
    (h : ∀ v, ∀ k ∈ l, (x k).slot.state = .streaming → (w.voices v).winner ≠ some k) :
    (l.foldl (fun a k => a.sentAway k (x k)) w).record = w.record := by
  induction l generalizing w with
  | nil => rfl
  | cons k l ih =>
    have hk : (w.sentAway k (x k)).record = w.record := by
      unfold SwitchView.sentAway
      dsimp only
      split
      · next hs =>
        have hn : ∀ v, ¬switchesWinner k (w.voices v) := fun v ⟨_, _, hv⟩ => h v k List.mem_cons_self hs hv
        rw [switchTold, switchTold, if_neg (hn 1), if_neg (hn 0)]
      · rfl
    rw [List.foldl_cons, ih, hk]
    intro v j hj hs
    have hv := h v j (List.mem_cons_of_mem k hj) hs
    show ((w.voices v).sentAway k (x k)).winner ≠ some j
    unfold Voice.sentAway
    split
    · next hks =>
      rcases voiceWithout_winner (h v k List.mem_cons_self hks) with e | e <;> rw [e]
      · exact nofun
      · exact hv
    · exact hv

end

/-! ### The four slots sent away (R13) -/

/-- The state once the entry to CLOSING has sent every slot away. -/
def slotsSentAway (s : State) : State := forEachSlot closeSlot s

/-- Each stream is sent away once. -/
theorem streamAt_slotsSentAway (k : SlotId) (s : State) : streamAt k (slotsSentAway s) = (streamAt k s).sentAway :=
  forEachSlot_view streamAt_closeSlot_same streamAt_closeSlot_other k s

/-- The sending away of the slots stands beside the slots. -/
theorem slotsSentAway_beside (s : State) : BesideSlotsStands s (slotsSentAway s) :=
  forEachSlot_of_trans (R := BesideSlotsStands) BesideSlotsStands.trans closeSlot_beside s

/-- The slots about slot `k` in the order of their sending away. -/
theorem slots_split (k : SlotId) :
    ∃ pre post : List SlotId, [0, 1, 2, 3] = pre ++ k :: post ∧ (∀ j ∈ pre, j < k) ∧ ∀ j ∈ post, k < j := by
  match k with
  | 0 => exact ⟨[], [1, 2, 3], rfl, by decide, by decide⟩
  | 1 => exact ⟨[0], [2, 3], rfl, by decide, by decide⟩
  | 2 => exact ⟨[0, 1], [3], rfl, by decide, by decide⟩
  | 3 => exact ⟨[0, 1, 2], [], rfl, by decide, by decide⟩

/-- Every slot is taken. -/
theorem mem_slots (k : SlotId) : k ∈ ([0, 1, 2, 3] : List SlotId) := by revert k; decide

/-- The roster once the slots have been sent away. -/
theorem slotsSentAway_roster (i : EntryId) (s : State) :
    (slotsSentAway s).roster[i]
      = ([0, 1, 2, 3] : List SlotId).foldl (fun a k => a.sentAway i (streamAt k s)) s.roster[i] :=
  forEachSlot_fold (acc := fun s => s.roster[i]) streamAt_closeSlot_other (closeSlot_roster i) s

/-- The voices once the slots have been sent away. -/
theorem slotsSentAway_voices (v : VoiceId) (s : State) :
    (slotsSentAway s).voices[v] = ([0, 1, 2, 3] : List SlotId).foldl (fun a k => a.sentAway k (streamAt k s)) s.voices[v] :=
  forEachSlot_fold (acc := fun s => s.voices[v]) streamAt_closeSlot_other (closeSlot_voices v) s

/-- JOIN_RESULT once the slots have been sent away. -/
theorem slotsSentAway_joinRecord (s : State) :
    (slotsSentAway s).notices.records[Source.joinResult]
      = ([0, 1, 2, 3] : List SlotId).foldl (fun a k => a.joinClosed k (streamAt k s))
        s.notices.records[Source.joinResult] :=
  forEachSlot_fold (acc := fun s => s.notices.records[Source.joinResult]) streamAt_closeSlot_other closeSlot_joinRecord s

/-- The voices and VOICE_SWITCH once the slots have been sent away. -/
theorem slotsSentAway_switchView (s : State) :
    switchView (slotsSentAway s)
      = ([0, 1, 2, 3] : List SlotId).foldl (fun a k => a.sentAway k (streamAt k s)) (switchView s) :=
  forEachSlot_fold (acc := switchView) streamAt_closeSlot_other closeSlot_switchView s

/-- The first stream sent away that is a voice's winner switches it, and VOICE_SWITCH says so. -/
theorem slotsSentAway_switches {v : VoiceId} {k : SlotId} {s : State} (hk : s.slots[k].state = .streaming)
    (hw : switchesWinner k s.voices[v])
    (hb : ∀ j : SlotId, j < k → s.slots[j].state = .streaming → s.voices[v].hasMember j = false) :
    (slotsSentAway s).notices.records[Source.voiceSwitch].toldAbsence := by
  obtain ⟨pre, post, hl, hpre, -⟩ := slots_split k
  show (switchView (slotsSentAway s)).record.toldAbsence
  rw [slotsSentAway_switchView, hl, List.foldl_append, List.foldl_cons]
  refine SwitchView.foldl_keeps _ post (SwitchView.sentAway_of_switches (fun k => streamAt k s) (v := v) hk ?_)
  rw [SwitchView.foldl_voice_of_none (fun k => streamAt k s) v pre fun j hj hs => hb j (hpre j hj) hs]
  exact hw

/-- A stream that is not sent away stands. -/
theorem Stream.sentAway_of_not_streaming {x : Stream} (h : x.slot.state ≠ .streaming) :
    x.sentAway.queue = x.queue ∧ x.sentAway.conv = x.conv ∧ x.sentAway.store = x.store := by
  unfold Stream.sentAway
  split
  · exact ⟨rfl, rfl, rfl⟩
  · exact ⟨rfl, rfl, rfl⟩
  · contradiction
  · exact ⟨rfl, rfl, rfl⟩

/-- A slot sent away is FREE when it was FREE or JOINING. -/
theorem Stream.sentAway_free (x : Stream) :
    x.sentAway.slot.state = .free ↔ x.slot.state = .free ∨ x.slot.state = .joining := by
  unfold Stream.sentAway
  split <;> simp [*, StreamSlot.reset]

/-- Where no slot stays in use none is STREAMING. -/
theorem not_streaming_of_noSlotStays {s : State} (h : noSlotStays s) (k : SlotId) : s.slots[k].state ≠ .streaming := by
  rcases h k with e | e <;> rw [e] <;> exact nofun

/-- Where no slot stays in use the voices stand. -/
theorem slotsSentAway_voices_stand {s : State} (h : noSlotStays s) : (slotsSentAway s).voices = s.voices :=
  Vector.ext fun v hv =>
    (congrArg (fun w => SwitchView.voices w ⟨v, hv⟩) (slotsSentAway_switchView s)).trans
      (SwitchView.foldl_voice_of_none (fun k => streamAt k s) ⟨v, hv⟩ _
        fun k _ hk => absurd hk (not_streaming_of_noSlotStays h k))

/-- No slot stays in use exactly when every slot sent away is FREE. -/
theorem slotsSentAway_allFree (s : State) : (∀ k : SlotId, (slotsSentAway s).slots[k].state = .free) ↔ noSlotStays s :=
  forall_congr' fun k => by
    rw [show (slotsSentAway s).slots[k] = (streamAt k s).sentAway.slot from
      congrArg Stream.slot (streamAt_slotsSentAway k s)]
    exact Stream.sentAway_free _

/-! ### The closing settled (R14) -/

/-- The call once CLOSING has been entered, before the closing may complete. -/
def closingBegun (reason : CloseReason) (s : State) : State :=
  changeCall { (slotsSentAway s).call with state := .closing, closeReason := reason } (slotsSentAway s)

/-- With no slot left in use the closing completes in the same event (R14). -/
theorem enterClosing_of_noSlotStays {reason : CloseReason} {s : State} (h : noSlotStays s) :
    enterClosing reason s = completeClosing (closingBegun reason s) :=
  if_pos ⟨rfl, (allFree_iff _).2 ((slotsSentAway_allFree s).2 h)⟩

/-- With a slot left in use the closing goes on. -/
theorem enterClosing_of_stays {reason : CloseReason} {s : State} (h : ¬noSlotStays s) :
    enterClosing reason s = closingBegun reason s :=
  if_neg fun ⟨_, hf⟩ => h ((slotsSentAway_allFree s).1 ((allFree_iff _).1 hf))

theorem BesideCallStands.trans {s t u : State} (h : BesideCallStands s t) (g : BesideCallStands t u) : BesideCallStands s u where
  slots := g.slots.trans h.slots
  queues := g.queues.trans h.queues
  roster := g.roster.trans h.roster
  voices := g.voices.trans h.voices
  watches := g.watches.trans h.watches
  air := g.air.trans h.air
  pair := g.pair.trans h.pair
  keyUnit := g.keyUnit.trans h.keyUnit
  control := g.control.trans h.control
  draws := g.draws.trans h.draws
  pending := g.pending.trans h.pending
  route := g.route.trans h.route
  classes := g.classes.trans h.classes
  outstanding := g.outstanding.trans h.outstanding
  records := fun other hc hd => (g.records other hc hd).trans (h.records other hc hd)

/-- The entry to CLOSING leaves what the sending away of the slots has left beside the call. -/
theorem enterClosing_beside (reason : CloseReason) (s : State) :
    BesideCallStands (slotsSentAway s) (enterClosing reason s) := by
  have hc : BesideCallStands (slotsSentAway s) (closingBegun reason s) := changeCall_beside _ _
  by_cases h : noSlotStays s
  · rw [enterClosing_of_noSlotStays h]; exact hc.trans (completeClosing_beside _)
  · rw [enterClosing_of_stays h]; exact hc

/-- What the completion of a closing does depends on the port, the converters, the mix, the rate and COMMIT_DONE alone. -/
theorem closingDone_congr {s w t : State} (hp : w.port = s.port) (hr : w.call.rate = s.call.rate) (hm : w.mix = s.mix)
    (hc : ∀ j : SlotId, w.convs[j] = s.convs[j])
    (hn : w.notices.records[Source.commitDone] = s.notices.records[Source.commitDone]) (h : closingDone w t) :
    closingDone s t := by
  obtain ⟨h1, h2, h3, h4, h5⟩ := h
  refine ⟨hp ▸ h1, h2, fun j => ?_, hm ▸ h4, ?_⟩
  · rw [h3 j, hc j, hr]
  · rw [h5, hm, hn]

/-- The call after the entry to CLOSING (R13, R14). -/
theorem enterClosing_call (reason : CloseReason) (s : State) :
    (noSlotStays s → (enterClosing reason s).call = { s.call with state := .idle, closeReason := reason })
      ∧ (¬noSlotStays s → (enterClosing reason s).call = { s.call with state := .closing, closeReason := reason }) := by
  obtain ⟨hc, -⟩ := (slotsSentAway_beside s).rest
  refine ⟨fun h => ?_, fun h => ?_⟩
  · rw [enterClosing_of_noSlotStays h, completeClosing_eq, ← hc]; rfl
  · rw [enterClosing_of_stays h, ← hc]; rfl

/-- CALL_STATE after the entry to CLOSING: told once, and again when the closing completes (R13, R14, R17). -/
theorem enterClosing_record (reason : CloseReason) (s : State) :
    (enterClosing reason s).notices.records[Source.callState]
      = ⟨true, if (enterClosing reason s).call.state = .idle
            then saturatingSucc 255 (saturatingSucc 255 s.notices.records[Source.callState].occurrences)
            else saturatingSucc 255 s.notices.records[Source.callState].occurrences,
          s.notices.records[Source.callState].indexSet, if (enterClosing reason s).call.state = .idle then 0 else 5,
          reason.code.zeroExtend 32⟩ := by
  have hs := (slotsSentAway_beside s).records Source.callState (by decide) (by decide)
  have hb : (closingBegun reason s).notices.records[Source.callState]
      = ⟨true, saturatingSucc 255 s.notices.records[Source.callState].occurrences,
        s.notices.records[Source.callState].indexSet, 5, reason.code.zeroExtend 32⟩ := by
    rw [← hs]; exact changeCall_record _ _
  by_cases h : noSlotStays s
  · rw [(enterClosing_call reason s).1 h, enterClosing_of_noSlotStays h, completeClosing_record, hb]; rfl
  · rw [(enterClosing_call reason s).2 h, enterClosing_of_stays h, hb]; rfl

/-- A stream with a slot in use after the entry to CLOSING stands as it was sent away. -/
theorem enterClosing_of_stays_fields {reason : CloseReason} {s : State} (h : ¬noSlotStays s) :
    (enterClosing reason s).convs = (slotsSentAway s).convs ∧ (enterClosing reason s).stores = (slotsSentAway s).stores
      ∧ (enterClosing reason s).port = (slotsSentAway s).port ∧ (enterClosing reason s).mix = (slotsSentAway s).mix
      ∧ (enterClosing reason s).notices.records[Source.commitDone]
        = (slotsSentAway s).notices.records[Source.commitDone] := by
  rw [enterClosing_of_stays h]
  exact ⟨rfl, rfl, rfl, rfl, Notices.occur_record_other (by decide) _ _ _ _⟩

/-- With no slot left in use the entry to CLOSING does what the completion of a closing does (R14). -/
theorem enterClosing_done {reason : CloseReason} {s : State} (h : noSlotStays s) : closingDone s (enterClosing reason s) := by
  have hs := slotsSentAway_beside s
  obtain ⟨hcall, -, -, -, hmix, -, hport, -⟩ := hs.rest
  rw [enterClosing_of_noSlotStays h]
  have hrate : (slotsSentAway s).call.rate = s.call.rate := congrArg CallRecord.rate hcall
  refine closingDone_congr (w := closingBegun reason s) hport hrate hmix (fun j => ?_) ?_ (completeClosing_done _)
  · obtain ⟨-, hconv, -⟩ := Stream.sentAway_of_not_streaming (x := streamAt j s) (not_streaming_of_noSlotStays h j)
    exact (congrArg Stream.conv (streamAt_slotsSentAway j s)).trans hconv
  · exact (Notices.occur_record_other (by decide) _ _ _ _).trans (hs.records Source.commitDone (by decide) (by decide))

/-- The roster after the slots have been sent away, entry by entry (R59). -/
theorem slotsSentAway_entry (i : EntryId) (s : State) :
    ((∀ k : SlotId, s.slots[k].state = .joining → s.slots[k].rosterIndex ≠ some i) →
        (slotsSentAway s).roster[i] = s.roster[i])
      ∧ ((∃ k : SlotId, s.slots[k].state = .joining ∧ s.slots[k].rosterIndex = some i) →
        (slotsSentAway s).roster[i] = s.roster[i].left) := by
  rw [slotsSentAway_roster]
  exact ⟨fun h => foldl_entry_of_none _ i _ _ fun k _ hk => h k hk.1 hk.2,
    fun ⟨k, hk⟩ => foldl_entry_of_some _ i _ _ ⟨k, mem_slots k, hk⟩⟩

/-- The entry to CLOSING does what R13 and R14 say. -/
theorem enterClosing_spec (reason : CloseReason) (s : State) : closingEntered reason s (enterClosing reason s) := by
  have hs := slotsSentAway_beside s
  have hb := enterClosing_beside reason s
  have hx := fun k => streamAt_slotsSentAway k s
  have hjoin := (hb.records Source.joinResult (by decide) (by decide)).trans (slotsSentAway_joinRecord s)
  have hswitch := hb.records Source.voiceSwitch (by decide) (by decide)
  obtain ⟨hcall, hair, hpair, hkey, hmix, hwatch, hport, hcontrol, hdraws, hpending⟩ := hs.rest
  have hidle := enterClosing_call reason s
  refine ⟨hidle.1, hidle.2, fun k => ?_, fun k hk => ?_, fun k hk => ?_, fun h => ?_, fun h => ?_, fun i hi => ?_,
    fun i hi => ?_, fun j => ?_, fun h => ?_, fun k hk hl => ?_, fun v => ?_, fun v k hk hw hj => ?_, fun h => ?_,
    enterClosing_record reason s, fun other ho => ?_, hb.route.trans hs.route, hb.classes.trans hs.classes,
    hb.outstanding.trans hs.outstanding, hb.air.trans hair, hb.pair.trans hpair, hb.keyUnit.trans hkey,
    hb.watches.trans hwatch, hb.control.trans hcontrol, hb.draws.trans hdraws, hb.pending.trans hpending⟩
  · rw [hb.slots, show (slotsSentAway s).slots[k] = _ from congrArg Stream.slot (hx k), Stream.sentAway]
    cases hk : s.slots[k].state <;> simp only [streamAt, hk]
  · have hstays : ¬noSlotStays s := fun h => not_streaming_of_noSlotStays h k hk
    have hq := hx k
    obtain ⟨hconvs, hstores, -⟩ := enterClosing_of_stays_fields (reason := reason) hstays
    simp only [Stream.sentAway, streamAt, hk, Stream.mk.injEq] at hq
    rw [hb.queues, hconvs, hstores]
    exact hq.2
  · rw [hb.queues]
    exact (congrArg Stream.queue (hx k)).trans (Stream.sentAway_of_not_streaming hk).1
  · obtain ⟨hconvs, hstores, hp, hm, hn⟩ := enterClosing_of_stays_fields (reason := reason) h
    refine ⟨hp.trans hport, hm.trans hmix, hn.trans (hs.records _ (by decide) (by decide)), fun k hk => ?_⟩
    obtain ⟨-, hc, ht⟩ := Stream.sentAway_of_not_streaming (x := streamAt k s) hk
    rw [hconvs, hstores]
    exact ⟨(congrArg Stream.conv (hx k)).trans hc, (congrArg Stream.store (hx k)).trans ht⟩
  · exact ⟨enterClosing_done h, hb.voices.trans (slotsSentAway_voices_stand h)⟩
  · rw [hb.roster]; exact (slotsSentAway_entry i s).1 hi
  · rw [hb.roster]; exact (slotsSentAway_entry i s).2 hi
  · rw [hjoin, foldl_joinClosed_indexSet]
    simp only [mem_slots, decide_true, Bool.true_and]
    rfl
  · exact hjoin.trans (foldl_joinClosed_of_none _ _ _ fun k _ => h k)
  · obtain ⟨pre, post, hsplit, -, hpost⟩ := slots_split k
    obtain ⟨earlier, he⟩ := foldl_joinClosed_last (fun k => streamAt k s) s.notices.records[Source.joinResult] hsplit hk
      fun j hj => hl j (hpost j hj)
    rw [hjoin, he]
    exact ⟨rfl, rfl, rfl⟩
  · rw [hb.voices]; exact slotsSentAway_voices v s
  · rw [hswitch]; exact slotsSentAway_switches hk hw hj
  · refine hswitch.trans ((congrArg SwitchView.record (slotsSentAway_switchView s)).trans ?_)
    exact SwitchView.foldl_record_of_none _ _ fun v k _ => h v k
  · simp only [List.mem_cons, List.not_mem_nil, or_false, not_or] at ho
    obtain ⟨hc, hj, hv, hd⟩ := ho
    exact (hb.records other hc hd).trans (hs.records other hj hv)

/-! ### The request of an entry to CLOSING (R13, R174) -/

/-- A state whose control port is that of `s` with a request gone is what the removal of the request leaves. -/
theorem eq_dropRequest_of_control {e s : State} (h : e.control = (dropRequest s).control) :
    e = dropRequest { e with control := s.control } := by
  cases e
  cases h
  rfl

/-- What the entry to CLOSING does stands beside the control port. -/
theorem closingEntered_of_dropRequest {reason : CloseReason} {s t : State} (h : closingEntered reason (dropRequest s) t) :
    closingEntered reason s { t with control := s.control } := by
  obtain ⟨hidle, hclosing, hslots, hended, hqueues, hstays, hdone, hentry, hjoined, hset, hnone, hlast, hvoices, hswitch, hstand,
    hcall, hother, hroute, hclasses, hreports, hair, hpair, hkey, hwatches, -, hdraws, hpending⟩ := h
  exact ⟨hidle, hclosing, hslots, hended, hqueues, hstays, hdone, hentry, hjoined, hset, hnone, hlast, hvoices, hswitch, hstand,
    hcall, hother, hroute, hclasses, hreports, hair, hpair, hkey, hwatches, rfl, hdraws, hpending⟩

/-- The entry to CLOSING leaves the control port. -/
theorem enterClosing_control (reason : CloseReason) (s : State) : (enterClosing reason s).control = s.control := by
  obtain ⟨-, -, -, -, -, -, -, hcontrol, -, -⟩ := (slotsSentAway_beside s).rest
  exact (enterClosing_beside reason s).control.trans hcontrol

end Sys2Proof.Machine

open Sys2Proof Sys2Proof.Machine

/-- Settles O12: in a call CALL_CLOSE enters CLOSING, which leaves the control port, so that the request goes and the reply comes
beside it. -/
theorem callCloseSendsSlotsAway : Obligations.CallCloseSendsSlotsAway := by
  intro tag s h hs
  refine ⟨{ enterClosing .byRequest (dropRequest s) with control := s.control }, ?_,
    closingEntered_of_dropRequest (enterClosing_spec .byRequest (dropRequest s))⟩
  have he := eq_dropRequest_of_control (enterClosing_control .byRequest (dropRequest s))
  exact congrArg _ (takeRequest_answered h ((callClose_of_call (s := dropRequest s) hs).trans (congrArg (answerOk []) he)))
end

section
/-! Syncs of the Call Port (R152 to R155). -/

namespace Sys2Proof.Machine

open Sys2Proof

/-! ### Words (R152) -/

/-- The order of a word's bytes on the line is that of the statements. -/
theorem word_eq_lineOrder (o : ByteOrder) (w : BitVec 16) : o.word w = lineOrder o w := by
  cases o with
  | normal => rfl
  | swapped =>
    apply BitVec.eq_of_toNat_eq
    have hw := w.isLt
    have hhigh : w.toNat / 256 < 2 ^ 8 := by omega
    have hsum : w.toNat % 256 * 256 + w.toNat / 256 < 2 ^ 16 := by omega
    simp only [ByteOrder.word, lineOrder, BitVec.toNat_append, BitVec.extractLsb'_toNat, BitVec.toNat_ofNat,
      Nat.shiftRight_zero, Nat.shiftRight_eq_div_pow w.toNat 8, Nat.mod_eq_of_lt hhigh, Nat.mod_eq_of_lt hsum]
    rw [← Nat.shiftLeft_add_eq_or_of_lt hhigh, Nat.shiftLeft_eq]

/-- A word of 0 is 0 on the line in either order. -/
theorem lineOrder_zero (o : ByteOrder) : lineOrder o 0 = 0 := by cases o <;> rfl

/-- The exchange of a word, in the words of the statements (R152). -/
theorem exchangeWord_eq (c : CallRecord) (first second : BitVec 16) (i : Nat) (p : PortRecord) :
    exchangeWord c first second i p = { p with
      wordIndex := i
      downGathering := p.downGathering ++ [downWord c first second]
      driven := callPlace c.wordPosition (lineOrder c.byteOrder ((p.upSending.getD []).getD i 0)) } := by
  simp only [exchangeWord, word_eq_lineOrder, drivenAt_eq]
  rfl

/-! ### Syncs while hunting (R153, R154) -/

/-- The port in which a sync is measured, the reference set to it and a word of 0 driven (R152, R153). -/
def PortRecord.hunted (now : Tick) (c : CallRecord) (p : PortRecord) : PortRecord :=
  { p with reference := some now, driven := callPlace c.wordPosition 0 }

/-- A sync while HUNTING or FREE_RUNNING is hunted (R153, R158). -/
theorem takeSync_of_hunts {s : State} (first second : BitVec 16) (h : s.port.state = .hunting ∨ s.port.state = .freeRunning) :
    takeSync first second s = huntSync first second s := by
  rcases h with h | h <;> simp only [takeSync, h]

/-- A sync is the lock event when its spacing is good and the good count 16 (R153). -/
theorem isLockEvent_iff {s : State} {ref : Tick} (hr : s.port.reference = some ref) :
    isLockEvent s = true ↔ spacingIsGood s.call.rate (s.air.timeBase - ref).toNat ∧ 16 ≤ s.port.goodCount := by
  rw [isLockEvent, hr, Option.any_some, Bool.and_eq_true, goodSpacing_iff, decide_eq_true_iff]
  rfl

/-- The first sync of a hunt sets the reference alone (R153). -/
theorem huntSync_of_no_reference {s : State} (first second : BitVec 16) (h : s.port.reference = none) :
    huntSync first second s = { s with port := { s.port.hunted s.air.timeBase s.call with goodCount := 0 } } := by
  have hl : ¬isLockEvent s = true := by simp [isLockEvent, h]
  have hc : huntCount s = 0 := by simp only [huntCount, h]
  rw [huntSync, if_neg hl, hc, drivenAt_eq]
  rfl

/-- A sync of a bad spacing starts the count again (R153). -/
theorem huntSync_of_bad {s : State} {ref : Tick} (first second : BitVec 16) (hr : s.port.reference = some ref)
    (hg : ¬spacingIsGood s.call.rate (s.air.timeBase - ref).toNat) :
    huntSync first second s = { s with port := { s.port.hunted s.air.timeBase s.call with goodCount := 0 } } := by
  have hl : ¬isLockEvent s = true := fun h => hg ((isLockEvent_iff hr).1 h).1
  have hc : huntCount s = 0 := by
    simp only [huntCount, hr]
    exact if_neg fun h => hg ((goodSpacing_iff _ _).1 h)
  rw [huntSync, if_neg hl, hc, drivenAt_eq]
  rfl

/-- A sync of a good spacing below the lock counts (R153). -/
theorem huntSync_of_good {s : State} {ref : Tick} (first second : BitVec 16) (hr : s.port.reference = some ref)
    (hg : spacingIsGood s.call.rate (s.air.timeBase - ref).toNat) (hn : s.port.goodCount < 16) :
    huntSync first second s
      = { s with port := { s.port.hunted s.air.timeBase s.call with goodCount := s.port.goodCount + 1 } } := by
  have hl : ¬isLockEvent s = true := fun h => absurd ((isLockEvent_iff hr).1 h).2 (Nat.not_le.2 hn)
  have hc : huntCount s = s.port.goodCount + 1 := by
    simp only [huntCount, hr]
    exact if_pos ((goodSpacing_iff _ _).2 hg)
  rw [huntSync, if_neg hl, hc, drivenAt_eq]
  rfl

/-- The state that the lock event leaves before the call hears of it: a block begun with word 0 (R154). -/
def locked (first second : BitVec 16) (s : State) : State :=
  { s with
    port := { s.port.hunted s.air.timeBase s.call with
      state := .synced, goodCount := 0, wordIndex := 0, freeRunDue := none,
      downGathering := [downWord s.call first second], downCompleted := none, upSending := none } }

/-- A sync of a good spacing that finds the good count at 16 is the lock event (R153, R154). -/
theorem huntSync_of_lock {s : State} {ref : Tick} (first second : BitVec 16) (hr : s.port.reference = some ref)
    (hg : spacingIsGood s.call.rate (s.air.timeBase - ref).toNat) (hn : 16 ≤ s.port.goodCount) :
    huntSync first second s = takeLock (locked first second s) := by
  rw [huntSync, if_pos ((isLockEvent_iff hr).2 ⟨hg, hn⟩), lockPort, exchangeWord_eq]
  dsimp only [Option.getD_none, List.getD_nil]
  rw [lineOrder_zero]
  rfl

/-- What the call makes of the lock event, by its state (R5, R10). -/
theorem takeLock_eq (s : State) :
    takeLock s = match s.call.state with
      | .opening => raise Source.callState 2 (s.call.closeReason.code.zeroExtend 32)
          { s with call := { s.call with state := .live, blockNumber := 0 } }
      | .lost => raise Source.callState (match s.call.resumeTo with
            | .live => 2
            | .held => 3) (s.call.closeReason.code.zeroExtend 32)
          { s with
            call := { s.call with
              state := match s.call.resumeTo with
                | .live => .live
                | .held => .held
              freeRunCount := 0 } }
      | _ => s := by
  unfold takeLock
  cases s.call.state with
  | lost => cases hr : s.call.resumeTo <;> simp only [changeCall, hr] <;> rfl
  | _ => rfl

end Sys2Proof.Machine

open Sys2Proof Sys2Proof.Machine

/-- Settles O41, by the port's state, the reference, the spacing and the good count. -/
theorem syncHuntsAndLocks : Obligations.SyncHuntsAndLocks := by
  intro elapsed first second s
  refine ⟨fun hstop => ?_, ?_⟩
  · refine congrArg Host.Outcome.next ?_
    simp only [takeSync, passTime_port, hstop]
    rfl
  rintro hhunt now hunted rfl rfl
  have htake : exec (.sync elapsed first second) s = .next (huntSync first second (later elapsed s)) :=
    congrArg Host.Outcome.next (takeSync_of_hunts (s := later elapsed s) first second hhunt)
  rw [htake]
  refine ⟨fun hr => ?_, fun ref hr => ⟨fun hg => ?_, fun hg hn => ?_, fun hg hn => ⟨_, rfl, ?_⟩⟩⟩
  · exact congrArg _ (huntSync_of_no_reference (s := later elapsed s) first second hr)
  · exact congrArg _ (huntSync_of_bad (s := later elapsed s) first second hr hg)
  · exact congrArg _ (huntSync_of_good (s := later elapsed s) first second hr hg hn)
  · rw [huntSync_of_lock (s := later elapsed s) first second hr hg hn, takeLock_eq]
    rfl
end

section
/-! Block events at syncs, and free-running ones (R155 to R157). -/

namespace Sys2Proof.Machine

open Sys2Proof

/-! ### What a block event leaves -/

/-- A source that no stage of a block event has cause to raise stands. -/
theorem Told.record_stands {cause : SourceId → Prop} {n m : Notices} {x : SourceId} (h : Told cause n m) (hx : ¬cause x) :
    m.records[x] = n.records[x] := by
  obtain ⟨-, -, -, hrecords⟩ := h
  exact (hrecords x).2 hx

/-- A block event reaches the block number of the call record, and neither the time, the port nor CALL_STATE (R12, R155). -/
theorem formBlock_beside (down : List Sample) (s : State) :
    (formBlock down s).call = { s.call with blockNumber := s.call.blockNumber + 1 } ∧ (formBlock down s).air = s.air
      ∧ (formBlock down s).notices.records[Source.callState] = s.notices.records[Source.callState] := by
  have hformed : formBlock down s = advanceBlock
      (forEachSlot (formEar s.blockSamples (blockSources down s)) (formUp s.blockSamples (blockSources down s) (beforeMix s))) :=
    rfl
  obtain ⟨n, hmix, tmix, -⟩ := beforeMix_spec s
  obtain ⟨m, hup, tup⟩ := formUp_spec s.blockSamples (blockSources down s) (beforeMix s)
  obtain ⟨counts, stores, watches, p, hears, -, -, -, -, tears⟩ :=
    formEars_spec s.blockSamples (blockSources down s) (formUp s.blockSamples (blockSources down s) (beforeMix s))
  rw [hears] at hformed
  generalize formBlock down s = t at *
  generalize formUp s.blockSamples (blockSources down s) (beforeMix s) = up at *
  generalize beforeMix s = mixed at *
  have emix := tmix.record_stands (x := Source.callState) (by rintro (⟨e, -⟩ | ⟨e, -⟩ | ⟨e, -⟩) <;> exact absurd e (by decide))
  have eup := tup.record_stands (x := Source.callState) (by rintro (⟨e, -⟩ | ⟨e, -⟩) <;> exact absurd e (by decide))
  have eears := tears.record_stands (x := Source.callState)
    (by rintro ⟨k, -, ⟨e, -⟩ | ⟨e, -⟩ | ⟨e, -⟩⟩ <;> exact absurd e (by decide))
  have hm : mixed.call = s.call ∧ mixed.air = s.air ∧ mixed.notices = n := by rw [hmix]; exact ⟨rfl, rfl, rfl⟩
  have hu : up.call = mixed.call ∧ up.air = mixed.air ∧ up.notices = m := by rw [hup]; exact ⟨rfl, rfl, rfl⟩
  have ht : t.call = { up.call with blockNumber := up.call.blockNumber + 1 } ∧ t.air = up.air ∧ t.notices = p := by
    rw [hformed]; exact ⟨rfl, rfl, rfl⟩
  obtain ⟨hmcall, hmair, hmn⟩ := hm
  obtain ⟨hucall, huair, hun⟩ := hu
  obtain ⟨htcall, htair, htn⟩ := ht
  refine ⟨?_, (htair.trans huair).trans hmair, ?_⟩
  · rw [htcall, hucall, hmcall]
  · rw [htn, eears, hun, eup, hmn, emix]

/-! ### Blocks on syncs (R155) -/

/-- A sync while SYNCED is a step of the block (R155). -/
theorem takeSync_of_synced {s : State} (first second : BitVec 16) (h : s.port.state = .synced) :
    takeSync first second s = syncInStep first second s := by
  simp only [takeSync, h]

/-- A sync inside a block begins the next word exchange (R155). -/
theorem syncInStep_inside {s : State} (first second : BitVec 16) (h : s.port.wordIndex + 1 < s.blockSamples) :
    syncInStep first second s = { s with port := { s.port with
      reference := some s.air.timeBase
      wordIndex := s.port.wordIndex + 1
      downGathering := s.port.downGathering ++ [downWord s.call first second]
      driven := callPlace s.call.wordPosition
        (lineOrder s.call.byteOrder ((s.port.upSending.getD []).getD (s.port.wordIndex + 1) 0)) } } := by
  rw [syncInStep, if_pos h, exchangeWord_eq]

/-- The block event of the N-th sync, with `up` the UP sink's block: the port begins the next block with word 0 (R155). -/
def PortRecord.nextBlock (now : Tick) (c : CallRecord) (first second : BitVec 16) (up : List Sample) (p : PortRecord) :
    PortRecord :=
  { p with
    reference := some now, wordIndex := 0, lastBlockEventTime := now,
    downGathering := [downWord c first second], downCompleted := some p.downGathering,
    upSending := some (uplinkChoice c p.downGathering up),
    driven := callPlace c.wordPosition (lineOrder c.byteOrder ((uplinkChoice c p.downGathering up).getD 0 0)) }

/-- The state in which a sync's block event is taken: the sync is the reference (R155). -/
def referenced (s : State) : State := { s with port := { s.port with reference := some s.air.timeBase } }

/-- The N-th sync of a block forms the block and begins the next one (R155). -/
theorem syncInStep_last {s : State} (first second : BitVec 16) (h : s.blockSamples ≤ s.port.wordIndex + 1) :
    syncInStep first second s = { formBlock s.port.downGathering (referenced s) with
      port := s.port.nextBlock s.air.timeBase s.call first second (blockUplink s.port.downGathering (referenced s)) } := by
  rw [syncInStep, if_neg (Nat.not_lt.2 h)]
  dsimp only [syncBlockEvent]
  rw [exchangeWord_eq]
  rfl

end Sys2Proof.Machine

open Sys2Proof Sys2Proof.Machine

/-- Settles O42: inside the block by the word exchange alone, at its end by what a block event does. -/
theorem syncExchangesWords : Obligations.SyncExchangesWords := by
  intro elapsed first second s now hsync hnow
  subst hnow
  have htake : exec (.sync elapsed first second) s = .next (syncInStep first second (later elapsed s)) :=
    congrArg Host.Outcome.next (takeSync_of_synced (s := later elapsed s) first second hsync)
  rw [htake]
  refine ⟨fun h => congrArg _ (syncInStep_inside (s := later elapsed s) first second h), fun h => ?_⟩
  obtain ⟨hcall, hair, hrecord⟩ := formBlock_beside s.port.downGathering (referenced (later elapsed s))
  have hformed := formBlock_spec s.port.downGathering (referenced (later elapsed s))
  rw [syncInStep_last (s := later elapsed s) first second h]
  dsimp only
  generalize formBlock s.port.downGathering (referenced (later elapsed s)) = formed at *
  generalize blockUplink s.port.downGathering (referenced (later elapsed s)) = up at *
  refine ⟨_, up, rfl, ?_, hrecord, hcall, hair, uplinkChoice s.call s.port.downGathering up, rfl, rfl⟩
  exact blockFormed_transfer hformed rfl ⟨rfl, rfl⟩ Iff.rfl ⟨rfl, rfl, rfl, fun _ _ => rfl⟩ rfl
end

section
/-! Sync loss and free-running (R9, R11, R156, R157). -/

namespace Sys2Proof.Machine

open Sys2Proof

/-! ### The free-running block event (R11, R157) -/

/-- The state with the port moved on by a free-running block event: its block of zeros completed, the next event due 40,000 ticks
later (R157). -/
def PortRecord.ranFree (now : Tick) (zeros : List Sample) (p : PortRecord) : PortRecord :=
  { p with downCompleted := some zeros, lastBlockEventTime := now, freeRunDue := p.freeRunDue.map (· + 40000) }

/-- The state in which a free-running block event is counted: its block formed, the port moved on (R157). -/
def freeRunFormed (s : State) : State :=
  { formBlock (silence s) s with port := s.port.ranFree s.air.timeBase (silence s) }

/-- A free-running block event is formed, then counted. -/
theorem freeRunBlock_eq (s : State) : freeRunBlock s = countFreeRun (freeRunFormed s) := rfl

/-- What a free-running block event forms, and leaves, before it is counted (R157). -/
theorem freeRunFormed_spec (s : State) :
    blockFormed (silence s) (blockUplink (silence s) s) s (freeRunFormed s)
      ∧ (freeRunFormed s).call = { s.call with blockNumber := s.call.blockNumber + 1 } ∧ (freeRunFormed s).air = s.air
      ∧ (freeRunFormed s).port = s.port.ranFree s.air.timeBase (silence s)
      ∧ (freeRunFormed s).notices.records[Source.callState] = s.notices.records[Source.callState] := by
  have hformed := formBlock_spec (silence s) s
  obtain ⟨hcall, hair, hrecord⟩ := formBlock_beside (silence s) s
  unfold freeRunFormed
  generalize formBlock (silence s) s = formed at *
  exact ⟨blockFormed_transfer hformed rfl ⟨rfl, rfl⟩ Iff.rfl ⟨rfl, rfl, rfl, fun _ _ => rfl⟩ rfl, hcall, hair, rfl, hrecord⟩

/-- The state with a free-running block event counted in LOST, which leaves out the closing that the two-hundredth begins (R11). -/
def freeRunCounted (s : State) : State :=
  { s with
    call := { s.call with
      freeRunCount := if s.call.state = .lost then min 200 (s.call.freeRunCount + 1) else s.call.freeRunCount } }

@[simp] theorem freeRunCounted_air (s : State) : (freeRunCounted s).air = s.air := rfl
@[simp] theorem freeRunCounted_port (s : State) : (freeRunCounted s).port = s.port := rfl
@[simp] theorem freeRunCounted_notices (s : State) : (freeRunCounted s).notices = s.notices := rfl

/-- The count of a free-running block event that is not the two-hundredth in LOST (R11). -/
theorem countFreeRun_of_below {s : State} (h : s.call.state ≠ .lost ∨ s.call.freeRunCount < 199) :
    countFreeRun s = freeRunCounted s := by
  by_cases hl : s.call.state = .lost
  · have hn : s.call.freeRunCount < 199 := h.resolve_left (not_not_intro hl)
    have hmin : min 200 (s.call.freeRunCount + 1) = s.call.freeRunCount + 1 := by omega
    simp only [countFreeRun, freeRunCounted, if_pos hl, hmin]
    simp only [hl, if_neg (show ¬200 ≤ s.call.freeRunCount + 1 by omega)]
  · rw [freeRunCounted, if_neg hl]
    unfold countFreeRun
    split
    · contradiction
    · rfl

/-- The two-hundredth free-running block event in LOST begins the closing (R11). -/
theorem countFreeRun_of_last {s : State} (h : s.call.state = .lost) (hn : 199 ≤ s.call.freeRunCount) :
    countFreeRun s = enterClosing .syncLost (freeRunCounted s) := by
  have hmin : min 200 (s.call.freeRunCount + 1) = 200 := by omega
  simp only [countFreeRun, freeRunCounted, if_pos h, hmin]
  simp only [h, if_pos (show 200 ≤ s.call.freeRunCount + 1 by omega)]

/-- A free-running block event counted stands beside the free-run count. -/
theorem blockFormed_counted {down up : List Sample} {s t : State} (h : blockFormed down up s t) :
    blockFormed down up s (freeRunCounted t) :=
  blockFormed_transfer h rfl ⟨rfl, rfl⟩ Iff.rfl ⟨rfl, rfl, rfl, fun _ _ => rfl⟩ rfl

/-! ### When the events fall (R156, R157) -/

/-- Sync loss is due once 32 × P ticks have passed since the reference (R156). -/
theorem syncLossDue_iff (s : State) :
    syncLossDue s = true ↔ s.port.state = .synced
      ∧ ∃ ref, s.port.reference = some ref ∧ 32 * s.call.rate.period ≤ (s.air.timeBase - ref).toNat := by
  rw [syncLossDue, Bool.and_eq_true, beq_iff_eq, Option.any_eq_true]
  refine and_congr_right fun _ => exists_congr fun ref => and_congr_right fun _ => ?_
  rw [decide_eq_true_iff, ticksSince]

/-- A free-running block event is due once the time base has reached free-run due (R157). -/
theorem freeRunReached_iff {s : State} {due : Tick} (h : s.port.state = .freeRunning) (hd : s.port.freeRunDue = some due) :
    freeRunReached s = true
      ↔ (due - s.port.lastBlockEventTime).toNat ≤ (s.air.timeBase - s.port.lastBlockEventTime).toNat := by
  rw [freeRunReached, hd, h, Option.any_some, beq_self_eq_true, Bool.true_and, decide_eq_true_iff, ticksSince]

/-! ### The declaration of sync loss (R9, R156) -/

/-- The state once sync loss has been declared, before any block event overdue is taken (R9, R156). -/
def syncLost (s : State) : State := takeSyncLoss { s with port := s.port.lose }

/-- The declaration of sync loss, by the call's state (R9). -/
theorem syncLost_eq (s : State) :
    syncLost s = match s.call.state with
      | .live => raise Source.callState 4 (s.call.closeReason.code.zeroExtend 32)
          { s with port := s.port.lose, call := { s.call with state := .lost, resumeTo := .live, freeRunCount := 0 } }
      | .held => raise Source.callState 4 (s.call.closeReason.code.zeroExtend 32)
          { s with port := s.port.lose, call := { s.call with state := .lost, resumeTo := .held, freeRunCount := 0 } }
      | _ => { s with port := s.port.lose } := by
  unfold syncLost takeSyncLoss
  cases s.call.state <;> rfl

/-- The call once sync loss has been declared (R9). -/
theorem syncLost_call_eq (s : State) :
    (syncLost s).call = match s.call.state with
      | .live => { s.call with state := .lost, resumeTo := .live, freeRunCount := 0 }
      | .held => { s.call with state := .lost, resumeTo := .held, freeRunCount := 0 }
      | _ => s.call := by
  rw [syncLost_eq]
  cases s.call.state <;> rfl

/-- The declaration of sync loss reaches the call, the port and CALL_STATE. -/
theorem syncLost_fields (s : State) :
    syncLost s = { s with call := (syncLost s).call, port := s.port.lose, notices := (syncLost s).notices } := by
  rw [syncLost_eq]
  cases s.call.state <;> rfl

theorem syncLost_air (s : State) : (syncLost s).air = s.air := by rw [syncLost_fields]
theorem syncLost_port (s : State) : (syncLost s).port = s.port.lose := by rw [syncLost_fields]

/-- What the declaration of sync loss leaves of the notices: all but CALL_STATE. -/
theorem syncLost_notices (s : State) :
    (syncLost s).notices.route = s.notices.route ∧ (syncLost s).notices.classes = s.notices.classes
      ∧ (syncLost s).notices.outstanding = s.notices.outstanding
      ∧ ∀ x, x ≠ Source.callState → (syncLost s).notices.records[x] = s.notices.records[x] := by
  have hraised : ∀ value, _ := fun value x (hx : x ≠ Source.callState) =>
    Notices.occur_record_other hx none 4 value s.notices
  rw [syncLost_eq]
  cases s.call.state
  case live => exact ⟨rfl, rfl, rfl, hraised _⟩
  case held => exact ⟨rfl, rfl, rfl, hraised _⟩
  all_goals exact ⟨rfl, rfl, rfl, fun _ _ => rfl⟩

/-- The UP sink falls silent in LOST out of HELD as it was in HELD (R133), and the block's rate and number stand. -/
theorem syncLost_call (s : State) :
    (syncLost s).call.rate = s.call.rate ∧ (syncLost s).call.blockNumber = s.call.blockNumber
      ∧ (((syncLost s).call.state = .held ∨ ((syncLost s).call.state = .lost ∧ (syncLost s).call.resumeTo = .held))
        ↔ (s.call.state = .held ∨ (s.call.state = .lost ∧ s.call.resumeTo = .held))) := by
  rw [syncLost_eq]
  cases h : s.call.state
  case live => exact ⟨rfl, rfl, by simp⟩
  case held => exact ⟨rfl, rfl, by simp⟩
  all_goals exact ⟨rfl, rfl, by simp [h]⟩

/-- The zeros of a block are as many after sync loss as before. -/
theorem syncLost_silence (s : State) : silence (syncLost s) = silence s := by
  obtain ⟨hrate, -, -⟩ := syncLost_call s
  rw [silence, silence, State.blockSamples, State.blockSamples, hrate]

/-- Sync loss not overdue for a block event is its declaration alone (R156). -/
theorem declareSyncLoss_of_early {s : State} (h : (s.air.timeBase - s.port.lastBlockEventTime).toNat < 40000) :
    declareSyncLoss s = syncLost s := by
  have h8 : ¬80000 ≤ ticksSince s.port.lastBlockEventTime s := by rw [ticksSince]; omega
  have h4 : ¬40000 ≤ ticksSince s.port.lastBlockEventTime s := by rw [ticksSince]; omega
  rw [declareSyncLoss, if_neg h8, if_neg h4]
  rfl

/-- The port once sync loss has taken an overdue block event with it: the next due 40,000 ticks after the one overdue, or after now
where that has passed too (R156, R157). -/
def PortRecord.overdue (now : Tick) (zeros : List Sample) (p : PortRecord) : PortRecord :=
  { p.lose with
    downCompleted := some zeros, lastBlockEventTime := now,
    freeRunDue := some (if (now - p.lastBlockEventTime).toNat < 80000 then p.lastBlockEventTime + 80000 else now + 40000) }

/-- The state once sync loss has taken an overdue block event with it, but for the port (R9, R11, R156). -/
def lateBlock (s : State) : State := freeRunCounted (freeRunFormed (syncLost s))

/-- The port as an overdue block event leaves it, where the next one is not overdue too (R157). -/
theorem lateBlock_port (s : State) : (lateBlock s).port = { s.port.lose with
    downCompleted := some (silence s), lastBlockEventTime := s.air.timeBase,
    freeRunDue := some (s.port.lastBlockEventTime + 80000) } := by
  obtain ⟨-, -, -, hport, -⟩ := freeRunFormed_spec (syncLost s)
  have hdue : s.port.lose.freeRunDue.map (· + 40000) = some (s.port.lastBlockEventTime + 80000) :=
    congrArg some (BitVec.add_assoc s.port.lastBlockEventTime 40000 40000)
  rw [lateBlock, freeRunCounted_port, hport, syncLost_port, syncLost_air, syncLost_silence, PortRecord.ranFree, hdue]

/-- An overdue block event lets no time pass. -/
theorem lateBlock_air (s : State) : (lateBlock s).air = s.air := by
  obtain ⟨-, -, hair, -⟩ := freeRunFormed_spec (syncLost s)
  rw [lateBlock, freeRunCounted_air, hair, syncLost_air]

/-- An overdue block event that sync loss takes with it is not the two-hundredth (R9, R11). -/
theorem freeRunBlock_syncLost {s : State} (hs : s.call.state = .live ∨ s.call.state = .held ∨ s.call.state = .closing) :
    freeRunBlock (syncLost s) = lateBlock s := by
  obtain ⟨-, hcall, -⟩ := freeRunFormed_spec (syncLost s)
  have hbelow : (syncLost s).call.state ≠ .lost ∨ (syncLost s).call.freeRunCount < 199 := by
    rw [syncLost_call_eq]
    rcases hs with e | e | e <;> simp [e]
  rw [freeRunBlock_eq]
  refine countFreeRun_of_below ?_
  rw [hcall]
  exact hbelow

/-- Sync loss with a block event overdue takes that event with it (R156; log entry 11). -/
theorem declareSyncLoss_of_overdue {s : State} (h : 40000 ≤ (s.air.timeBase - s.port.lastBlockEventTime).toNat)
    (hs : s.call.state = .live ∨ s.call.state = .held ∨ s.call.state = .closing) :
    declareSyncLoss s = { lateBlock s with port := s.port.overdue s.air.timeBase (silence s) } := by
  have hport := lateBlock_port s
  have hair := lateBlock_air s
  have hblock : freeRunBlock (takeSyncLoss { s with port := s.port.lose }) = lateBlock s := freeRunBlock_syncLost hs
  have h4 : 40000 ≤ ticksSince s.port.lastBlockEventTime s := h
  rw [declareSyncLoss, hblock]
  generalize lateBlock s = late at *
  unfold PortRecord.overdue
  by_cases h8 : 80000 ≤ ticksSince s.port.lastBlockEventTime s
  · have hpast : ¬(s.air.timeBase - s.port.lastBlockEventTime).toNat < 80000 := Nat.not_lt.2 h8
    rw [if_pos h8, if_neg hpast, postponeFreeRun, hport, ← hair]
  · have hnext : (s.air.timeBase - s.port.lastBlockEventTime).toNat < 80000 := Nat.not_le.1 h8
    rw [if_neg h8, if_pos h4, if_pos hnext, ← hport]

/-- What sync loss with a block event overdue does to the call, by the call's state (R9, R11). -/
theorem lateBlock_call {s : State} (hs : s.call.state = .live ∨ s.call.state = .held ∨ s.call.state = .closing) :
    (lateBlock s).call = match s.call.state with
      | .live => { s.call with
          state := .lost, resumeTo := .live, freeRunCount := 1, blockNumber := s.call.blockNumber + 1 }
      | .held => { s.call with
          state := .lost, resumeTo := .held, freeRunCount := 1, blockNumber := s.call.blockNumber + 1 }
      | _ => { s.call with blockNumber := s.call.blockNumber + 1 } := by
  obtain ⟨-, hcall, -⟩ := freeRunFormed_spec (syncLost s)
  rw [lateBlock, freeRunCounted, hcall, syncLost_call_eq]
  rcases hs with e | e | e <;> simp [e]

/-- What sync loss with a block event overdue tells of the call, by the call's state (R9). -/
theorem lateBlock_record {s : State} (hs : s.call.state = .live ∨ s.call.state = .held ∨ s.call.state = .closing) :
    (lateBlock s).notices.records[Source.callState]
      = if s.call.state = .closing then s.notices.records[Source.callState]
        else ⟨true, saturatingSucc 255 s.notices.records[Source.callState].occurrences,
          s.notices.records[Source.callState].indexSet, 4, s.call.closeReason.code.zeroExtend 32⟩ := by
  obtain ⟨-, -, -, -, hrecord⟩ := freeRunFormed_spec (syncLost s)
  rw [lateBlock, freeRunCounted_notices, hrecord, syncLost_eq]
  rcases hs with e | e | e <;> rw [e]
  · exact Notices.occur_record _ _ _ _ _
  · exact Notices.occur_record _ _ _ _ _
  · rfl

/-- What sync loss with a block event overdue forms (R118, R127, R156). -/
theorem lateBlock_formed (s : State) :
    blockFormed (silence s) (blockUplink (silence (syncLost s)) (syncLost s)) s
      { lateBlock s with port := s.port.overdue s.air.timeBase (silence s) } := by
  obtain ⟨hrate, hnumber, hheld⟩ := syncLost_call s
  obtain ⟨hformed, -⟩ := freeRunFormed_spec (syncLost s)
  have hcounted := blockFormed_counted hformed
  rw [syncLost_silence] at hcounted ⊢
  unfold lateBlock
  generalize freeRunCounted (freeRunFormed (syncLost s)) = late at *
  have hfields : syncLost s = { s with
      call := (syncLost s).call, air := (syncLost s).air, port := (syncLost s).port, notices := (syncLost s).notices } :=
    (syncLost_fields s).trans (by rw [syncLost_air, syncLost_port])
  exact blockFormed_transfer hcounted hfields ⟨hrate, hnumber⟩ hheld (syncLost_notices s) rfl

/-! ### The commands (R156, R157) -/

/-- SYNC_LOSS where sync loss is due declares it (R156). -/
theorem exec_syncLoss_of_due {elapsed ref : Tick} {s : State} (hsync : s.port.state = .synced)
    (href : s.port.reference = some ref) (hdue : 32 * s.call.rate.period ≤ (s.air.timeBase + elapsed - ref).toNat) :
    exec (.syncLoss elapsed) s = .next (declareSyncLoss (later elapsed s)) :=
  congrArg _ (if_pos ((syncLossDue_iff (later elapsed s)).2 ⟨hsync, ref, href, hdue⟩))

/-- FREE_RUNNING_BLOCK_EVENT where the event is due takes it (R157). -/
theorem exec_freeRunningBlockEvent_of_due {elapsed due : Tick} {s : State} (hfree : s.port.state = .freeRunning)
    (hd : s.port.freeRunDue = some due)
    (h : (due - s.port.lastBlockEventTime).toNat ≤ (s.air.timeBase + elapsed - s.port.lastBlockEventTime).toNat) :
    exec (.freeRunningBlockEvent elapsed) s = .next (freeRunBlock (later elapsed s)) := by
  have hreached := (freeRunReached_iff (s := later elapsed s) hfree hd).2 h
  show Host.Outcome.next (freeRunningBlockEvent (later elapsed s)) = _
  rw [freeRunningBlockEvent, if_pos hreached]

/-- What a block event does does not depend on the time that has passed before it. -/
theorem blockFormed_of_later {elapsed : Tick} {down up : List Sample} {s t : State}
    (h : blockFormed down up (later elapsed s) t) : blockFormed down up s t :=
  blockFormed_transfer h rfl ⟨rfl, rfl⟩ Iff.rfl ⟨rfl, rfl, rfl, fun _ _ => rfl⟩ rfl

end Sys2Proof.Machine

open Sys2Proof Sys2Proof.Machine

/-- Settles O43: sync loss and the free-running event, each by whether it is due, and sync loss by whether a block event is overdue,
the free-running event by whether it is the two-hundredth in LOST. -/
theorem syncLossAndFreeRunning : Obligations.SyncLossAndFreeRunning := by
  intro elapsed now s hnow
  subst hnow
  refine ⟨fun h => ?_, fun ref hsync href hdue => ⟨_, rfl, fun hearly => ?_, fun hlate hs => ?_⟩,
    fun due hfree hd => ⟨fun h => ?_, fun h => ?_⟩⟩
  · refine congrArg _ (if_neg fun hdue => ?_)
    obtain ⟨hsync, ref, href, hle⟩ := (syncLossDue_iff (later elapsed s)).1 hdue
    rcases h with h | h
    · exact h hsync
    · exact absurd (h ref href) (Nat.not_lt.2 hle)
  · rw [exec_syncLoss_of_due hsync href hdue, declareSyncLoss_of_early (s := later elapsed s) hearly, syncLost_eq]
    rfl
  · have hcall := lateBlock_call (s := later elapsed s) hs
    have hrecord := lateBlock_record (s := later elapsed s) hs
    have hair := lateBlock_air (later elapsed s)
    have hformed := lateBlock_formed (later elapsed s)
    rw [exec_syncLoss_of_due hsync href hdue, declareSyncLoss_of_overdue (s := later elapsed s) hlate hs]
    generalize lateBlock (later elapsed s) = late at *
    exact ⟨_, rfl, rfl, hcall, hair, hrecord, _, blockFormed_of_later hformed⟩
  · exact congrArg _ (if_neg fun hr => absurd h (Nat.not_lt.2 ((freeRunReached_iff (s := later elapsed s) hfree hd).1 hr)))
  · obtain ⟨hformed, hcall, hair, hport, hrecord⟩ := freeRunFormed_spec (later elapsed s)
    have hcounted := blockFormed_of_later (blockFormed_counted hformed)
    rw [exec_freeRunningBlockEvent_of_due hfree hd h, freeRunBlock_eq]
    generalize freeRunFormed (later elapsed s) = formed at *
    refine ⟨freeRunCounted formed, _, hcounted, hair, ?_, hrecord, ?_, fun hb => ?_, fun hl hn => ?_⟩
    · rw [freeRunCounted_port, hport, PortRecord.ranFree, hd]
      rfl
    · rw [freeRunCounted, hcall]
    · rw [countFreeRun_of_below]
      rw [hcall]
      exact hb
    · refine ⟨_, congrArg _ (countFreeRun_of_last ?_ ?_), enterClosing_spec .syncLost (freeRunCounted formed)⟩
      · rw [hcall]; exact hl
      · rw [hcall]; exact hn
end

section
/-! What the laws of the earbuds look at, and the moves by which a command can change it (R3, R21, R36, R50, R59). -/

namespace Sys2Proof.Machine

open Sys2Proof

/-! ### Two entries that differ (R21) -/

/-- Whether two entries differ does not depend on their order. -/
theorem entriesDiffer_comm (a b : RosterEntry) : entriesDiffer a b = entriesDiffer b a := by
  unfold entriesDiffer
  cases a.contents with
  | none => cases b.contents <;> rfl
  | some x =>
    cases b.contents with
    | none => rfl
    | some y =>
      rw [Bool.eq_iff_iff]
      simp only [Bool.and_eq_true, Bool.or_eq_true, bne_iff_ne, beq_iff_eq]
      grind

/-- An entry without contents differs from every other. -/
theorem entriesDiffer_of_no_contents {a : RosterEntry} (h : a.contents = none) (b : RosterEntry) : entriesDiffer a b = true := by
  simp only [entriesDiffer, h]

/-- Whether two entries differ is a matter of their contents. -/
theorem entriesDiffer_congr {a a' : RosterEntry} (h : a'.contents = a.contents) (b : RosterEntry) :
    entriesDiffer a' b = entriesDiffer a b := by
  simp only [entriesDiffer, h]

/-- A written entry differs from another that holds neither its address nor its place (R24, checks 5 and 6). -/
theorem entriesDiffer_bonded (c : Contents) (e : RosterEntry) :
    entriesDiffer (.bonded c) e = (!holdsAddress c.declared.address e && !holdsPlace c.declared.place e) := by
  have hc : (RosterEntry.bonded c).contents = some c := rfl
  unfold entriesDiffer holdsAddress holdsPlace
  rw [hc]
  cases e.contents with
  | none => simp
  | some y =>
    rw [Bool.eq_iff_iff]
    simp only [Bool.and_eq_true, Bool.or_eq_true, bne_iff_ne, beq_iff_eq, Bool.not_eq_true', Option.any_some, beq_eq_false_iff_ne,
      Bool.and_eq_false_iff, bne_eq_false_iff_eq]
    grind

/-- An entry marked BONDED again keeps its contents. -/
theorem RosterEntry.left_contents (e : RosterEntry) : e.left.contents = e.contents := by cases e <;> rfl

/-- An entry holds an address exactly when its contents do. -/
theorem holdsAddress_iff (a : Address) (e : RosterEntry) :
    holdsAddress a e = true ↔ ∃ c : Contents, e.contents = some c ∧ c.declared.address = a := by
  simp [holdsAddress, Option.any_eq_true]

/-- Of two entries that differ, both do not hold one address. -/
theorem not_holdsAddress_of_differ {a b : RosterEntry} {x : Address} (h : entriesDiffer a b = true) (ha : holdsAddress x a = true) :
    holdsAddress x b = false := by
  obtain ⟨c, hc, rfl⟩ := (holdsAddress_iff x a).1 ha
  have hd := entriesDiffer_congr (a' := .bonded c) hc.symm b
  rw [h, entriesDiffer_bonded, Bool.and_eq_true, Bool.not_eq_true'] at hd
  exact hd.1

/-! ### The view (R3, R21, R36, R50, R59) -/

/-- What the laws of the earbuds look at: the call state, the roster, of the pairing context its state, its reserved entry and its
candidates, and of each stream slot its state and the entry it refers to. -/
@[ext] structure EarbudView where
  call : CallState
  roster : EntryId → RosterEntry
  pairState : PairState
  reserved : Option EntryId
  candidates : List Candidate
  slotState : SlotId → SlotState
  rosterIndex : SlotId → Option EntryId

/-- The view of a state. -/
def earbudView (s : State) : EarbudView where
  call := s.call.state
  roster := fun i => s.roster[i]
  pairState := s.pair.state
  reserved := s.pair.reservedEntry
  candidates := s.pair.candidates
  slotState := fun k => s.slots[k].state
  rosterIndex := fun k => s.slots[k].rosterIndex

namespace EarbudView

/-- The view with another roster entry `i`. -/
def setEntry (i : EntryId) (e : RosterEntry) (v : EarbudView) : EarbudView := { v with roster := Function.update v.roster i e }

/-- The view with slot `k` in another state, referring to another entry. -/
def setSlot (k : SlotId) (st : SlotState) (entry : Option EntryId) (v : EarbudView) : EarbudView :=
  { v with slotState := Function.update v.slotState k st, rosterIndex := Function.update v.rosterIndex k entry }

/-- The view with an entry, if one is named, BONDED again (R59). -/
def releaseEntry (entry : Option EntryId) (v : EarbudView) : EarbudView :=
  match entry with
  | some i => v.setEntry i (v.roster i).left
  | none => v

/-- The view with an entry, if one is named, no more reserved (R28). -/
def releaseReservation (entry : Option EntryId) (v : EarbudView) : EarbudView :=
  match entry with
  | some i => v.setEntry i .free
  | none => v

/-- The view once a handshake has ended (R46, R47). -/
def ended (v : EarbudView) : EarbudView := { v with pairState := .idle, reserved := none, candidates := [] }

/-- No two entries share an address or a place (R21). -/
def RosterLaw (v : EarbudView) : Prop := ∀ i j : EntryId, i ≠ j → entriesDiffer (v.roster i) (v.roster j) = true

/-- The RESERVED entry is the context's, and there is one exactly while pairing (R50). -/
def ReservationLaw (v : EarbudView) : Prop :=
  (∀ i : EntryId, v.roster i = .reserved ↔ v.reserved = some i) ∧ (v.pairState = .idle ↔ v.reserved = none)

/-- One slot in use refers to each IN_CALL entry, and to no other (R59). -/
def MembershipLaw (v : EarbudView) : Prop :=
  (∀ k : SlotId, v.slotState k = .free ↔ v.rosterIndex k = none)
    ∧ (∀ i : EntryId, (v.roster i).isInCall = true ↔ ∃ k : SlotId, v.rosterIndex k = some i)
    ∧ (∀ j k : SlotId, v.rosterIndex j ≠ none → v.rosterIndex j = v.rosterIndex k → j = k)

/-- No slot is in use in IDLE and OPENING (R3). -/
def IdleLaw (v : EarbudView) : Prop := v.call = .idle ∨ v.call = .opening → ∀ k : SlotId, v.slotState k = .free

end EarbudView

/-- At most four candidates, of different addresses (R36). -/
def wellListed (candidates : List Candidate) : Prop := candidates.length ≤ 4 ∧ (candidates.map Candidate.address).Nodup

/-- The roster's law is one of the view. -/
theorem rosterLaw_iff (s : State) : rosterLaw s ↔ (earbudView s).RosterLaw := Iff.rfl

/-- The reservation's law is one of the view. -/
theorem reservationLaw_iff (s : State) : reservationLaw s ↔ (earbudView s).ReservationLaw := Iff.rfl

/-- The law of membership is one of the view. -/
theorem membershipLaw_iff (s : State) : membershipLaw s ↔ (earbudView s).MembershipLaw := Iff.rfl

/-- The law of idle slots is one of the view. -/
theorem idleLaw_iff (s : State) : idleLaw s ↔ (earbudView s).IdleLaw := Iff.rfl

/-- The candidates' law is one of the view. -/
theorem candidateLaw_iff (s : State) : candidateLaw s ↔ wellListed (earbudView s).candidates := Iff.rfl

/-! ### The moves -/

/-- One move of the view: every command makes some of these, one after the other, and nothing else. -/
inductive EarbudMove : EarbudView → EarbudView → Prop
  /-- The call changes its state; it comes to IDLE or OPENING from one of them, or with every slot FREE. -/
  | call (v : EarbudView) (c : CallState)
      (h : c = .idle ∨ c = .opening → (v.call = .idle ∨ v.call = .opening) ∨ ∀ k : SlotId, v.slotState k = .free) :
      EarbudMove v { v with call := c }
  /-- Contents are written into a FREE or BONDED entry; no other entry holds their place, and none their address unless this entry
  held it already. -/
  | write (v : EarbudView) (i : EntryId) (c : Contents) (hw : (v.roster i).writable = true)
      (ha : holdsAddress c.declared.address (v.roster i) = true
        ∨ ∀ j : EntryId, j ≠ i → holdsAddress c.declared.address (v.roster j) = false)
      (hp : ∀ j : EntryId, j ≠ i → holdsPlace c.declared.place (v.roster j) = false) :
      EarbudMove v (v.setEntry i (.bonded c))
  /-- A BONDED entry is dropped. -/
  | drop (v : EarbudView) (i : EntryId) (c : Contents) (h : v.roster i = .bonded c) : EarbudMove v (v.setEntry i .free)
  /-- In LIVE or HELD a FREE slot is taken for a BONDED entry. -/
  | join (v : EarbudView) (k : SlotId) (i : EntryId) (c : Contents) (hc : v.call = .live ∨ v.call = .held)
      (hi : v.roster i = .bonded c) (hk : v.slotState k = .free) :
      EarbudMove v ((v.setEntry i (.inCall c)).setSlot k .joining (some i))
  /-- A slot becomes FREE, and its entry BONDED. -/
  | release (v : EarbudView) (k : SlotId) : EarbudMove v ((v.releaseEntry (v.rosterIndex k)).setSlot k .free none)
  /-- A slot in use goes on to another state in use. -/
  | advance (v : EarbudView) (k : SlotId) (st : SlotState) (hk : v.slotState k ≠ .free) (hs : st ≠ .free) :
      EarbudMove v (v.setSlot k st (v.rosterIndex k))
  /-- In IDLE a FREE entry is reserved, and the context listens. -/
  | reserve (v : EarbudView) (i : EntryId) (hs : v.pairState = .idle) (hi : v.roster i = .free) :
      EarbudMove v { v.setEntry i .reserved with pairState := .listen, reserved := some i, candidates := [] }
  /-- The handshake goes on to another state. -/
  | handshake (v : EarbudView) (st : PairState) (h : v.pairState ≠ .idle) (hs : st ≠ .idle) :
      EarbudMove v { v with pairState := st }
  /-- The candidate list changes, and stays well formed. -/
  | list (v : EarbudView) (candidates : List Candidate) (h : wellListed v.candidates → wellListed candidates) :
      EarbudMove v { v with candidates := candidates }
  /-- The handshake ends, and its reservation is released. -/
  | fail (v : EarbudView) : EarbudMove v (v.releaseReservation v.reserved).ended
  /-- The handshake ends with contents in the reserved entry whose address and place no other entry holds. -/
  | bond (v : EarbudView) (r : EntryId) (c : Contents) (hr : v.reserved = some r)
      (hn : ∀ j : EntryId, j ≠ r → entriesDiffer (.bonded c) (v.roster j) = true) :
      EarbudMove v (v.setEntry r (.bonded c)).ended
  /-- The part is reset. -/
  | reset (v : EarbudView) : EarbudMove v (earbudView State.reset)

/-! ### What the moves keep -/

namespace EarbudView

/-- The roster's law stands when an entry that differs from the others is put in. -/
theorem RosterLaw.setEntry {v : EarbudView} {i : EntryId} {e : RosterEntry} (h : v.RosterLaw)
    (he : ∀ j : EntryId, j ≠ i → entriesDiffer e (v.roster j) = true) : (v.setEntry i e).RosterLaw := by
  intro j k hjk
  simp only [EarbudView.setEntry, Function.update_apply]
  split
  · next hj => rw [if_neg (hj ▸ hjk.symm)]; exact he k (hj ▸ hjk.symm)
  · next hj =>
    split
    · rw [entriesDiffer_comm]; exact he j hj
    · exact h j k hjk

/-- The roster's law stands when an entry loses its contents or keeps them. -/
theorem RosterLaw.setEntry_of_contents {v : EarbudView} {i : EntryId} {e : RosterEntry} (h : v.RosterLaw)
    (he : e.contents = none ∨ e.contents = (v.roster i).contents) : (v.setEntry i e).RosterLaw := by
  refine h.setEntry fun j hj => ?_
  rcases he with he | he
  · exact entriesDiffer_of_no_contents he _
  · rw [entriesDiffer_congr he]; exact h i j hj.symm

/-- Every move keeps the roster's law (R21). -/
theorem RosterLaw.move {v w : EarbudView} (h : v.RosterLaw) (m : EarbudMove v w) : w.RosterLaw := by
  cases m with
  | call => exact h
  | write i c hw ha hp =>
    refine h.setEntry fun j hj => ?_
    have ha' : holdsAddress c.declared.address (v.roster j) = false :=
      ha.elim (fun ha => not_holdsAddress_of_differ (h i j hj.symm) ha) fun ha => ha j hj
    rw [entriesDiffer_bonded, ha', hp j hj]
    rfl
  | drop i c hi => exact h.setEntry_of_contents (.inl rfl)
  | join k i c hc hi hk => exact h.setEntry_of_contents (v := v) (.inr (by rw [hi]; rfl))
  | release k =>
    show (v.releaseEntry (v.rosterIndex k)).RosterLaw
    cases v.rosterIndex k with
    | none => exact h
    | some i => exact h.setEntry_of_contents (.inr (RosterEntry.left_contents _))
  | advance => exact h
  | reserve i => exact h.setEntry_of_contents (v := v) (e := .reserved) (.inl rfl)
  | handshake => exact h
  | list => exact h
  | fail =>
    show (v.releaseReservation v.reserved).RosterLaw
    cases v.reserved with
    | none => exact h
    | some r => exact h.setEntry_of_contents (.inl rfl)
  | bond r c hr hn => exact h.setEntry hn
  | reset => obtain ⟨-, hlaw, -⟩ := resetKeepsEveryLaw; exact hlaw

/-- The reservation's law stands when an entry that is put in is RESERVED exactly when the one before was. -/
theorem ReservationLaw.setEntry {v : EarbudView} {i : EntryId} {e : RosterEntry} (h : v.ReservationLaw)
    (he : e = .reserved ↔ v.roster i = .reserved) : (v.setEntry i e).ReservationLaw := by
  obtain ⟨hr, hs⟩ := h
  refine ⟨fun j => ?_, hs⟩
  simp only [EarbudView.setEntry, Function.update_apply]
  split
  · next hj => subst hj; exact he.trans (hr j)
  · exact hr j

/-- Once the reserved entry is RESERVED no more and the handshake has ended, the reservation's law stands. -/
theorem ReservationLaw.ended_setEntry {v : EarbudView} {r : EntryId} {e : RosterEntry} (h : v.ReservationLaw)
    (hr : v.reserved = some r) (he : e ≠ .reserved) : (v.setEntry r e).ended.ReservationLaw := by
  refine ⟨fun j => ?_, by simp [ended]⟩
  simp only [ended, EarbudView.setEntry, Function.update_apply]
  split
  · simp [he]
  · next hj => rw [h.1 j, hr]; simpa using fun e => hj e.symm

/-- Every move keeps the reservation's law (R50). -/
theorem ReservationLaw.move {v w : EarbudView} (h : v.ReservationLaw) (m : EarbudMove v w) : w.ReservationLaw := by
  obtain ⟨hentry, hstate⟩ := id h
  cases m with
  | call => exact h
  | write i c hw ha hp =>
    refine h.setEntry ⟨nofun, fun hi => ?_⟩
    rw [hi] at hw
    cases hw
  | drop i c hi => exact h.setEntry (by rw [hi]; simp)
  | join k i c hc hi hk => exact h.setEntry (v := v) (e := .inCall c) (by rw [hi]; simp)
  | release k =>
    show (v.releaseEntry (v.rosterIndex k)).ReservationLaw
    cases v.rosterIndex k with
    | none => exact h
    | some i => exact h.setEntry (by cases v.roster i <;> simp [RosterEntry.left])
  | advance => exact h
  | reserve i hs hi =>
    have hnone := hstate.1 hs
    refine ⟨fun j => ?_, by simp⟩
    simp only [EarbudView.setEntry, Function.update_apply]
    split
    · next hj => simp [hj]
    · next hj => rw [hentry j, hnone]; simpa using fun e => hj e.symm
  | handshake st hidle hs =>
    refine ⟨hentry, ?_⟩
    have hsome : v.reserved ≠ none := fun hn => hidle (hstate.2 hn)
    simp [hs, hsome]
  | list => exact h
  | fail =>
    cases hr : v.reserved with
    | none =>
      refine ⟨fun j => ?_, by simp [ended]⟩
      simpa [ended, releaseReservation, hr] using hentry j
    | some r => exact h.ended_setEntry hr nofun
  | bond r c hr hn => exact h.ended_setEntry hr nofun
  | reset => obtain ⟨-, -, hlaw, -⟩ := resetKeepsEveryLaw; exact hlaw

/-- The law of membership stands when an entry that is put in is IN_CALL exactly when the one before was. -/
theorem MembershipLaw.setEntry {v : EarbudView} {i : EntryId} {e : RosterEntry} (h : v.MembershipLaw)
    (he : e.isInCall = (v.roster i).isInCall) : (v.setEntry i e).MembershipLaw := by
  obtain ⟨hs, hr, hu⟩ := h
  refine ⟨hs, fun j => ?_, hu⟩
  simp only [EarbudView.setEntry, Function.update_apply]
  split
  · next hj => subst hj; rw [he]; exact hr j
  · exact hr j

/-- The law of membership stands when a FREE slot takes an entry that no slot refers to. -/
theorem MembershipLaw.join {v : EarbudView} {k : SlotId} {i : EntryId} {c : Contents} (h : v.MembershipLaw)
    (hi : v.roster i = .bonded c) (hk : v.slotState k = .free) :
    ((v.setEntry i (.inCall c)).setSlot k .joining (some i)).MembershipLaw := by
  obtain ⟨hs, hr, hu⟩ := h
  have hnone : ∀ j : SlotId, v.rosterIndex j ≠ some i := fun j hj => by
    have := (hr i).2 ⟨j, hj⟩
    rw [hi] at this
    cases this
  have hfree : v.rosterIndex k = none := (hs k).1 hk
  refine ⟨fun j => ?_, fun j => ?_, fun j l => ?_⟩ <;>
    simp only [EarbudView.setEntry, EarbudView.setSlot, Function.update_apply]
  · split
    · simp
    · exact hs j
  · split
    · next hj => subst hj; exact iff_of_true rfl ⟨k, if_pos rfl⟩
    · next hj =>
      rw [hr j]
      refine exists_congr fun l => ?_
      split
      · next hl => subst hl; rw [hfree]; simpa using fun e => hj e.symm
      · rfl
  · split
    · split
      · next hj hl => exact fun _ _ => hj.trans hl.symm
      · exact fun _ he => absurd he.symm (hnone l)
    · split
      · exact fun _ he => absurd he (hnone j)
      · exact hu j l

/-- The law of membership stands when a slot becomes FREE and its entry is IN_CALL no more. -/
theorem MembershipLaw.release {v : EarbudView} (h : v.MembershipLaw) (k : SlotId) :
    ((v.releaseEntry (v.rosterIndex k)).setSlot k .free none).MembershipLaw := by
  obtain ⟨hs, hr, hu⟩ := h
  have hroster : ∀ i : EntryId, ((v.releaseEntry (v.rosterIndex k)).roster i).isInCall = true
      ↔ (v.roster i).isInCall = true ∧ v.rosterIndex k ≠ some i := by
    intro i
    cases hk : v.rosterIndex k with
    | none => simp [releaseEntry]
    | some r =>
      simp only [releaseEntry, EarbudView.setEntry, Function.update_apply]
      split
      · next hi => subst hi; cases v.roster i <;> simp [RosterEntry.left, RosterEntry.isInCall]
      · next hi => simpa using fun _ e => hi e.symm
  have hslots : (v.releaseEntry (v.rosterIndex k)).slotState = v.slotState
      ∧ (v.releaseEntry (v.rosterIndex k)).rosterIndex = v.rosterIndex := by
    cases v.rosterIndex k <;> exact ⟨rfl, rfl⟩
  refine ⟨fun j => ?_, fun i => (hroster i).trans ?_, fun j l => ?_⟩ <;>
    simp only [EarbudView.setSlot, Function.update_apply, hslots]
  · split
    · simp
    · exact hs j
  · rw [hr i]
    constructor
    · rintro ⟨⟨j, hj⟩, hk⟩
      exact ⟨j, by rw [if_neg (by rintro rfl; exact hk hj)]; exact hj⟩
    · rintro ⟨j, hj⟩
      split at hj
      · cases hj
      · next hjk => exact ⟨⟨j, hj⟩, fun hk => hjk (hu j k (by rw [hj]; nofun) (hj.trans hk.symm))⟩
  · split
    · exact fun hn => absurd rfl hn
    · split
      · exact fun hn he => absurd he hn
      · exact hu j l

/-- Every move keeps the law of membership, while the reservation's law holds (R59). -/
theorem MembershipLaw.move {v w : EarbudView} (h : v.MembershipLaw) (hres : v.ReservationLaw) (m : EarbudMove v w) :
    w.MembershipLaw := by
  cases m with
  | call => exact h
  | write i c hw ha hp => exact h.setEntry (by revert hw; cases v.roster i <;> simp [RosterEntry.writable, RosterEntry.isInCall])
  | drop i c hi => exact h.setEntry (by rw [hi]; rfl)
  | join k i c hc hi hk => exact h.join hi hk
  | release k => exact h.release k
  | advance k st hk hs =>
    obtain ⟨hf, hr, hu⟩ := h
    have hindex : Function.update v.rosterIndex k (v.rosterIndex k) = v.rosterIndex := Function.update_eq_self k _
    simp only [MembershipLaw, EarbudView.setSlot, hindex]
    refine ⟨fun j => ?_, hr, hu⟩
    rw [Function.update_apply]
    split
    · next hj => subst hj; exact iff_of_false hs (mt (hf j).2 hk)
    · exact hf j
  | reserve i hs hi => exact h.setEntry (v := v) (e := .reserved) (by rw [hi]; rfl)
  | handshake => exact h
  | list => exact h
  | fail =>
    show (v.releaseReservation v.reserved).MembershipLaw
    cases hr : v.reserved with
    | none => exact h
    | some r => exact h.setEntry (by rw [(hres.1 r).2 hr]; rfl)
  | bond r c hr hn => exact h.setEntry (v := v) (e := .bonded c) (by rw [(hres.1 r).2 hr]; rfl)
  | reset => obtain ⟨-, -, -, hlaw, -⟩ := resetKeepsEveryLaw; exact hlaw

/-- Every move keeps the law of idle slots (R3). -/
theorem IdleLaw.move {v w : EarbudView} (h : v.IdleLaw) (m : EarbudMove v w) : w.IdleLaw := by
  cases m with
  | call c hc => exact fun hidle => (hc hidle).elim h id
  | write => exact h
  | drop => exact h
  | join k i c hc hi hk =>
    intro hidle
    rcases hc with hc | hc <;> rcases hidle with hidle | hidle <;> exact absurd (hc.symm.trans hidle) nofun
  | release k =>
    have hrest : (v.releaseEntry (v.rosterIndex k)).call = v.call
        ∧ (v.releaseEntry (v.rosterIndex k)).slotState = v.slotState := by
      cases v.rosterIndex k <;> exact ⟨rfl, rfl⟩
    intro hidle j
    simp only [EarbudView.setSlot, hrest, Function.update_apply] at hidle ⊢
    split
    · rfl
    · exact h hidle j
  | advance k st hk hs => exact fun hidle => absurd (h hidle k) hk
  | reserve => exact h
  | handshake => exact h
  | list => exact h
  | fail =>
    show (v.releaseReservation v.reserved).IdleLaw
    cases v.reserved <;> exact h
  | bond => exact h
  | reset => obtain ⟨hlaw, -⟩ := resetKeepsEveryLaw; exact hlaw

end EarbudView

/-- Every move keeps the candidate list well formed (R36). -/
theorem wellListed_move {v w : EarbudView} (h : wellListed v.candidates) (m : EarbudMove v w) : wellListed w.candidates := by
  cases m with
  | list candidates hc => exact hc h
  | release k =>
    show wellListed (v.releaseEntry (v.rosterIndex k)).candidates
    cases v.rosterIndex k <;> exact h
  | reserve => exact ⟨Nat.zero_le _, List.nodup_nil⟩
  | fail => exact ⟨Nat.zero_le _, List.nodup_nil⟩
  | bond => exact ⟨Nat.zero_le _, List.nodup_nil⟩
  | reset => exact ⟨Nat.zero_le _, List.nodup_nil⟩
  | call => exact h
  | write => exact h
  | drop => exact h
  | join => exact h
  | advance => exact h
  | handshake => exact h

/-! ### Moves one after the other -/

/-- From the one state to the other the earbuds make moves alone. -/
def Moves (s t : State) : Prop := Relation.ReflTransGen EarbudMove (earbudView s) (earbudView t)

/-- With the view unchanged no move is made. -/
theorem Moves.of_view {s t : State} (h : earbudView t = earbudView s) : Moves s t := by
  rw [Moves, h]

theorem Moves.refl (s : State) : Moves s s := .of_view rfl

theorem Moves.trans {s t u : State} (h : Moves s t) (g : Moves t u) : Moves s u := Relation.ReflTransGen.trans h g

/-- One move. -/
theorem Moves.single {s t : State} {w : EarbudView} (m : EarbudMove (earbudView s) w) (h : earbudView t = w) : Moves s t :=
  Relation.ReflTransGen.single (h ▸ m)

/-- What every move keeps, moves one after the other keep. -/
theorem Moves.keep {P : EarbudView → Prop} (hP : ∀ {v w : EarbudView}, P v → EarbudMove v w → P w) {s t : State}
    (h : Moves s t) (hs : P (earbudView s)) : P (earbudView t) :=
  Relation.ReflTransGen.head_induction_on (motive := fun v _ => P v → P (earbudView t)) h id (fun m _ ih hv => ih (hP hv m)) hs

/-- Moves keep the laws of the earbuds. -/
theorem Moves.keep_laws {s t : State} (h : Moves s t) :
    (rosterLaw s → rosterLaw t) ∧ (reservationLaw s → reservationLaw t)
      ∧ (reservationLaw s → membershipLaw s → membershipLaw t) ∧ (idleLaw s → idleLaw t)
      ∧ (candidateLaw s → candidateLaw t) := by
  refine ⟨fun hs => ?_, fun hs => ?_, fun hr hs => ?_, fun hs => ?_, fun hs => ?_⟩
  · exact (rosterLaw_iff t).2 (h.keep EarbudView.RosterLaw.move ((rosterLaw_iff s).1 hs))
  · exact (reservationLaw_iff t).2 (h.keep EarbudView.ReservationLaw.move ((reservationLaw_iff s).1 hs))
  · have hboth := h.keep (P := fun v => v.ReservationLaw ∧ v.MembershipLaw)
      (fun ⟨hr, hm⟩ m => ⟨hr.move m, hm.move hr m⟩) ⟨(reservationLaw_iff s).1 hr, (membershipLaw_iff s).1 hs⟩
    exact (membershipLaw_iff t).2 hboth.2
  · exact (idleLaw_iff t).2 (h.keep EarbudView.IdleLaw.move ((idleLaw_iff s).1 hs))
  · exact (candidateLaw_iff t).2
      (h.keep (P := fun v => wellListed v.candidates) wellListed_move ((candidateLaw_iff s).1 hs))

end Sys2Proof.Machine
end

section
/-! What the shared operations do to the view of the earbuds. -/

namespace Sys2Proof.Machine

open Sys2Proof

/-! ### Updates of one part of the state -/

/-- Another record of a slot shows in the view by its state and by the entry it refers to. -/
theorem earbudView_setSlot (k : SlotId) (x : StreamSlot) (s : State) :
    earbudView (s.setSlot k x) = (earbudView s).setSlot k x.state x.rosterIndex := by
  have hread : ∀ {α : Type} (f : StreamSlot → α),
      (fun j : SlotId => f (s.slots.set k x)[j]) = Function.update (fun j : SlotId => f s.slots[j]) k (f x) := by
    intro α f
    funext j
    rw [Function.update_apply]
    split
    · next hj => rw [hj, set_get]
    · next hj => rw [set_get_other _ hj]
  exact EarbudView.ext rfl rfl rfl rfl rfl (hread StreamSlot.state) (hread StreamSlot.rosterIndex)

/-- A slot that keeps its state and its entry does not show in the view. -/
theorem earbudView_setSlot_of_eq {k : SlotId} {x : StreamSlot} {s : State} (hs : x.state = s.slots[k].state)
    (hi : x.rosterIndex = s.slots[k].rosterIndex) : earbudView (s.setSlot k x) = earbudView s := by
  rw [earbudView_setSlot, hs, hi]
  exact EarbudView.ext rfl rfl rfl rfl rfl (Function.update_eq_self k (earbudView s).slotState)
    (Function.update_eq_self k (earbudView s).rosterIndex)

/-- Another roster entry shows in the view. -/
theorem earbudView_setEntry (i : EntryId) (e : RosterEntry) (s : State) :
    earbudView (s.setEntry i e) = (earbudView s).setEntry i e := by
  refine EarbudView.ext rfl (funext fun j => ?_) rfl rfl rfl rfl rfl
  show (s.roster.set i e)[j] = Function.update (earbudView s).roster i e j
  rw [Function.update_apply]
  split
  · next hj => rw [hj, set_get]
  · next hj => rw [set_get_other _ hj]; rfl

/-- What stands beside the call shows in the view by the call state alone. -/
theorem BesideCallStands.earbudView {s t : State} (h : BesideCallStands s t) :
    earbudView t = { earbudView s with call := t.call.state } := by
  simp only [Machine.earbudView, h.slots, h.roster, h.pair]

/-- The view depends on the call state, the roster, the pairing context and the slots alone. -/
theorem earbudView_congr {s t : State} (hc : t.call.state = s.call.state) (hr : t.roster = s.roster) (hp : t.pair = s.pair)
    (hs : t.slots = s.slots) : earbudView t = earbudView s := by
  simp only [earbudView, hc, hr, hp, hs]

/-! ### The call -/

/-- A change of the call is a move, where the laws allow it. -/
theorem moves_changeCall {c : CallRecord} {s : State}
    (h : c.state = .idle ∨ c.state = .opening →
      (s.call.state = .idle ∨ s.call.state = .opening) ∨ ∀ k : SlotId, s.slots[k].state = .free) :
    Moves s (changeCall c s) :=
  .single (.call (earbudView s) c.state h) (changeCall_beside c s).earbudView

/-- The completion of a closing with every slot FREE is a move (R14). -/
theorem moves_completeClosing {s : State} (h : ∀ k : SlotId, s.slots[k].state = .free) : Moves s (completeClosing s) := by
  have hidle : (completeClosing s).call.state = .idle := by rw [completeClosing_eq]
  refine .single (.call (earbudView s) .idle fun _ => .inr h) ?_
  rw [(completeClosing_beside s).earbudView, hidle]

theorem moves_settleClosing (s : State) : Moves s (settleClosing s) := by
  unfold settleClosing
  split
  · next h => exact moves_completeClosing ((allFree_iff s).1 h.2)
  · exact .refl s

/-! ### Slots (R59, R66) -/

/-- An entry released shows in the view. -/
theorem earbudView_releaseEntry (entry : Option EntryId) (s : State) :
    earbudView (releaseEntry entry s) = (earbudView s).releaseEntry entry := by
  cases entry with
  | none => rfl
  | some i => exact earbudView_setEntry i _ s

/-- A slot's becoming FREE is a move (R59). -/
theorem moves_releaseSlot (k : SlotId) (s : State) : Moves s (releaseSlot k s) := by
  refine .single (.release (earbudView s) k) ?_
  rw [releaseSlot, earbudView_setSlot, earbudView_releaseEntry]
  rfl

theorem moves_freeSlot (k : SlotId) (s : State) : Moves s (freeSlot k s) :=
  (moves_releaseSlot k s).trans (moves_settleClosing _)

/-- A slot in use that goes on to another state in use, its entry kept, makes a move. -/
theorem moves_setSlot {k : SlotId} {x : StreamSlot} {s : State} (hk : s.slots[k].state ≠ .free) (hx : x.state ≠ .free)
    (hi : x.rosterIndex = s.slots[k].rosterIndex) : Moves s (s.setSlot k x) :=
  .single (.advance (earbudView s) k x.state hk hx) (by rw [earbudView_setSlot, hi]; rfl)

/-- The leaving of STREAMING does not show in the view: the slot's change of state comes after it (R66). -/
theorem earbudView_leaveStreaming (k : SlotId) (s : State) : earbudView (leaveStreaming k s) = earbudView s := by
  obtain ⟨-, -, -, hslots, hroster, -, hcall, -, hpair, -⟩ := leaveStreaming_spec k s
  refine (earbudView_congr (s := s.setSlot k { s.slots[k] with lastSent := none, retryCandidate := false }) ?_ hroster hpair
    hslots).trans (earbudView_setSlot_of_eq rfl rfl)
  rw [hcall]
  rfl

/-- A STREAMING slot's entering LEAVING is a move (R66). -/
theorem moves_enterLeaving {k : SlotId} {s : State} (h : s.slots[k].state = .streaming) : Moves s (enterLeaving k s) := by
  have hslot : (leaveStreaming k s).slots[k] = { s.slots[k] with lastSent := none, retryCandidate := false } := by
    obtain ⟨-, -, -, hslots, -⟩ := leaveStreaming_spec k s
    rw [hslots, set_get]
  refine (Moves.of_view (earbudView_leaveStreaming k s)).trans (moves_setSlot ?_ nofun rfl)
  rw [hslot]
  exact fun hf => absurd (h.symm.trans hf) nofun

theorem moves_closeSlot (k : SlotId) (s : State) : Moves s (closeSlot k s) := by
  rcases closeSlot_cases k s with ⟨-, he⟩ | ⟨h, he⟩ | ⟨-, -, he⟩
  · rw [he, ← releaseSlot_eq]
    exact (moves_releaseSlot k s).trans (.of_view rfl)
  · rw [he]; exact moves_enterLeaving h
  · rw [he]; exact .refl s

/-- The entry to CLOSING makes moves (R13). -/
theorem moves_enterClosing (reason : CloseReason) (s : State) : Moves s (enterClosing reason s) :=
  ((forEachSlot_of_trans .trans moves_closeSlot s).trans (moves_changeCall (by simp))).trans (moves_settleClosing _)

/-! ### The taking of a request (R173, R174) -/

/-- A request makes the moves of its answer. -/
theorem moves_takeWith (kind : Byte) (m : Message) {answer : State → Answer} (h : ∀ u : State, Moves u (answer u).state)
    (s : State) : Moves s (takeWith kind m answer s) := by
  by_cases ht : takeable m s
  · rw [takeWith_of_takeable ht]
    exact (Moves.of_view (t := dropRequest s) rfl).trans ((h (dropRequest s)).trans (.of_view rfl))
  · rw [takeWith_of_not_takeable ht]; exact .refl s

/-- The same for a request of a known kind. -/
theorem moves_takeRequest (kind tag : Byte) (body : List Byte) {answer : State → Answer}
    (h : ∀ u : State, Moves u (answer u).state) (s : State) : Moves s (takeRequest kind tag body answer s) :=
  moves_takeWith _ _ h s

end Sys2Proof.Machine
end

section
/-! The moves of the commands of the roster, the calls, the Call Port and the stream slots: `moves_f` says that `f` makes moves of
the earbuds alone. -/

namespace Sys2Proof.Machine

open Sys2Proof

/-! ### The roster (R24 to R29) -/

/-- No other entry holds an address exactly when each does not (R24, check 5). -/
theorem addressHeldElsewhere_eq_false (target : EntryId) (a : Address) (roster : Vector RosterEntry 8) :
    addressHeldElsewhere target a roster = false ↔ ∀ j : EntryId, j ≠ target → holdsAddress a roster[j] = false := by
  simp [addressHeldElsewhere]

/-- No other entry holds a place exactly when each does not (R24, check 6). -/
theorem placeHeldElsewhere_eq_false (target : EntryId) (p : Place) (roster : Vector RosterEntry 8) :
    placeHeldElsewhere target p roster = false ↔ ∀ j : EntryId, j ≠ target → holdsPlace p roster[j] = false := by
  simp [placeHeldElsewhere]

/-- ROSTER_PUT by its checks in their order (R24). -/
theorem rosterPut_cases (body : List Byte) (s : State) :
    (∃ st : Status, rosterPut body s = refuse st s)
      ∨ ∃ (i : EntryId) (c : Contents), s.roster[i].writable = true
        ∧ addressHeldElsewhere i c.declared.address s.roster = false ∧ placeHeldElsewhere i c.declared.place s.roster = false
        ∧ rosterPut body s = answerOk [] (s.setEntry i (.bonded c)) := by
  unfold rosterPut
  split
  · split
    · exact .inl ⟨_, rfl⟩
    · split
      · next i hi hw =>
        split
        · exact .inl ⟨_, rfl⟩
        · next c hc =>
          split
          · exact .inl ⟨_, rfl⟩
          · next ha =>
            split
            · exact .inl ⟨_, rfl⟩
            · next hp => exact .inr ⟨i, c, hw, by simpa using ha, by simpa using hp, rfl⟩
      · exact .inl ⟨_, rfl⟩
  · exact .inl ⟨_, rfl⟩

theorem moves_rosterPut (body : List Byte) (s : State) : Moves s (rosterPut body s).state := by
  rcases rosterPut_cases body s with ⟨st, he⟩ | ⟨i, c, hw, ha, hp, he⟩
  · rw [he]; exact .refl s
  · rw [he]
    exact .single (.write (earbudView s) i c hw (.inr ((addressHeldElsewhere_eq_false _ _ _).1 ha))
      ((placeHeldElsewhere_eq_false _ _ _).1 hp)) (earbudView_setEntry _ _ s)

theorem moves_rosterGet (body : List Byte) (s : State) : Moves s (rosterGet body s).state := by
  refine .of_view ?_
  unfold rosterGet
  split
  · split <;> rfl
  · rfl

theorem moves_rosterDrop (body : List Byte) (s : State) : Moves s (rosterDrop body s).state := by
  unfold rosterDrop
  split
  · split
    · next i hi =>
      split
      · exact .refl s
      · exact .refl s
      · exact .refl s
      · next c hc => exact .single (.drop (earbudView s) i c hc) (earbudView_setEntry i _ s)
    · exact .refl s
  · exact .refl s

/-! ### The calls (R4 to R14) -/

theorem moves_callOpen (body : List Byte) (s : State) : Moves s (callOpen body s).state := by
  unfold callOpen
  split
  · split
    · next hidle =>
      split
      · exact moves_changeCall (s := { s with port := _ }) fun _ => .inl (.inl hidle)
      · exact .refl s
    · exact .refl s
  · exact .refl s

theorem moves_callHold (body : List Byte) (s : State) : Moves s (callHold body s).state := by
  unfold callHold
  split
  · cases hs : s.call.state with
    | live => exact moves_changeCall (by simp)
    | _ => exact .of_view rfl
  · exact .refl s

theorem moves_callResume (body : List Byte) (s : State) : Moves s (callResume body s).state := by
  unfold callResume
  split
  · cases hs : s.call.state with
    | held => exact moves_changeCall (by simp)
    | _ => exact .of_view rfl
  · exact .refl s

/-- The leaving of OPENING for IDLE is a move (R6, R7). -/
theorem moves_abandonOpening {s : State} (reason : CloseReason) (h : s.call.state = .opening) :
    Moves s (abandonOpening reason s) :=
  moves_changeCall (s := { s with port := _ }) fun _ => .inl (.inr h)

theorem moves_callClose (body : List Byte) (s : State) : Moves s (callClose body s).state := by
  unfold callClose
  split
  · cases hs : s.call.state with
    | idle => exact .refl s
    | opening => exact moves_abandonOpening _ hs
    | closing => exact .refl s
    | live => exact moves_enterClosing _ s
    | held => exact moves_enterClosing _ s
    | lost => exact moves_enterClosing _ s
  · exact .refl s

theorem moves_callGet (body : List Byte) (s : State) : Moves s (callGet body s).state := by
  unfold callGet
  split <;> exact .refl s

theorem moves_lockTimeout (s : State) : Moves s (lockTimeout s) := by
  unfold lockTimeout
  split
  · next h => exact moves_abandonOpening _ ((lockTimeoutDue_iff s).1 h).1
  · exact .refl s

/-! ### The Call Port (R9 to R11, R153 to R157) -/

/-- A block event that leaves the call state does not show in the view. -/
theorem earbudView_of_blockFormed {down up : List Sample} {s t : State} (h : blockFormed down up s t)
    (hc : t.call.state = s.call.state) : earbudView t = earbudView s := by
  obtain ⟨-, -, -, -, -, -, -, -, -, -, -, -, -, -, -, -, hroster, hpair, -, hslots, -⟩ := h
  exact earbudView_congr hc hroster hpair hslots

/-- The port record does not show in the view. -/
theorem earbudView_port (p : PortRecord) (s : State) : earbudView { s with port := p } = earbudView s := rfl

theorem moves_takeLock (s : State) : Moves s (takeLock s) := by
  unfold takeLock
  split
  · exact moves_changeCall (by simp)
  · exact moves_changeCall (by cases s.call.resumeTo <;> simp [ResumeTo.callState])
  · exact .refl s

theorem moves_huntSync (first second : BitVec 16) (s : State) : Moves s (huntSync first second s) := by
  unfold huntSync
  split
  · unfold lockPort
    exact (Moves.of_view (earbudView_port _ s)).trans (moves_takeLock _)
  · exact .of_view (earbudView_port _ s)

theorem moves_syncInStep (first second : BitVec 16) (s : State) : Moves s (syncInStep first second s) := by
  by_cases hi : s.port.wordIndex + 1 < s.blockSamples
  · rw [syncInStep_inside first second hi]
    exact .of_view (earbudView_port _ s)
  · obtain ⟨hcall, -⟩ := formBlock_beside s.port.downGathering (referenced s)
    rw [syncInStep_last first second (Nat.not_lt.1 hi)]
    have hview := earbudView_of_blockFormed (formBlock_spec s.port.downGathering (referenced s)) (by rw [hcall])
    exact .of_view (((earbudView_port _ _).trans hview).trans (earbudView_port _ s))

theorem moves_takeSync (first second : BitVec 16) (s : State) : Moves s (takeSync first second s) := by
  unfold takeSync
  split
  · exact .refl s
  · exact moves_huntSync first second s
  · exact moves_huntSync first second s
  · exact moves_syncInStep first second s

theorem moves_countFreeRun (s : State) : Moves s (countFreeRun s) := by
  have hcounted : Moves s (freeRunCounted s) := .of_view rfl
  by_cases h : s.call.state ≠ .lost ∨ s.call.freeRunCount < 199
  · rw [countFreeRun_of_below h]
    exact hcounted
  · simp only [not_or, not_not, not_lt] at h
    rw [countFreeRun_of_last h.1 h.2]
    exact hcounted.trans (moves_enterClosing .syncLost _)

theorem moves_freeRunBlock (s : State) : Moves s (freeRunBlock s) := by
  obtain ⟨hformed, hcall, -⟩ := freeRunFormed_spec s
  rw [freeRunBlock_eq]
  exact (Moves.of_view (earbudView_of_blockFormed hformed (by rw [hcall]))).trans (moves_countFreeRun _)

theorem moves_takeSyncLoss (s : State) : Moves s (takeSyncLoss s) := by
  unfold takeSyncLoss
  split
  · exact moves_changeCall (by simp)
  · exact moves_changeCall (by simp)
  · exact .refl s

theorem moves_syncLoss (s : State) : Moves s (syncLoss s) := by
  have hlost : Moves s (syncLost s) := (Moves.of_view (earbudView_port s.port.lose s)).trans (moves_takeSyncLoss _)
  unfold syncLoss
  split
  · show Moves s (if 80000 ≤ ticksSince s.port.lastBlockEventTime s then postponeFreeRun (freeRunBlock (syncLost s))
      else if 40000 ≤ ticksSince s.port.lastBlockEventTime s then freeRunBlock (syncLost s) else syncLost s)
    split
    · exact hlost.trans ((moves_freeRunBlock _).trans (.of_view (earbudView_port _ _)))
    · split
      · exact hlost.trans (moves_freeRunBlock _)
      · exact hlost
  · exact .refl s

theorem moves_freeRunningBlockEvent (s : State) : Moves s (freeRunningBlockEvent s) := by
  unfold freeRunningBlockEvent
  split
  · exact moves_freeRunBlock s
  · exact .refl s

/-! ### Joining and leaving (R60 to R69) -/

/-- An accepted EAR_JOIN is a move (R30, R60). -/
theorem moves_startJoin {k : SlotId} {i : EntryId} {c : Contents} {s : State} (hc : s.call.state = .live ∨ s.call.state = .held)
    (hi : s.roster[i] = .bonded c) (hk : s.slots[k].state = .free) : Moves s (startJoin k i s) := by
  refine .single (.join (earbudView s) k i c hc hi hk) ?_
  have hjoined : s.roster[i].joined = .inCall c := by rw [hi]; rfl
  show earbudView ((s.setEntry i s.roster[i].joined).setSlot k _) = _
  rw [earbudView_setSlot, earbudView_setEntry, hjoined]

/-- The call states that admit earbuds are LIVE and HELD (R3, R60). -/
theorem admitsEarbuds_iff (c : CallState) : admitsEarbuds c = true ↔ c = .live ∨ c = .held := by
  cases c <;> simp [admitsEarbuds]

/-- The slot taken by a join is FREE. -/
theorem free_of_lowestFreeSlot {slots : Vector StreamSlot 4} {k : SlotId} (h : lowestFreeSlot slots = some k) :
    slots[k].state = .free := by
  simpa using List.find?_some h

theorem moves_earJoin (body : List Byte) (s : State) : Moves s (earJoin body s).state := by
  unfold earJoin
  split
  · split
    · next hadmits =>
      split
      · exact .refl s
      · next i hi =>
        split
        · exact .refl s
        · exact .refl s
        · exact .refl s
        · next c hc =>
          split
          · split
            · next k hk =>
              exact moves_startJoin ((admitsEarbuds_iff _).1 hadmits) hc (free_of_lowestFreeSlot hk)
            · exact .refl s
          · exact .refl s
    · exact .refl s
  · exact .refl s

theorem moves_endJoin (result : Byte) (k : SlotId) (s : State) : Moves s (endJoin result k s) :=
  (moves_freeSlot k s).trans (.of_view rfl)

/-- The binding to a voice does not show in the view. -/
theorem earbudView_bindVoice (k : SlotId) (d : Declared) (s : State) : earbudView (bindVoice k d s) = earbudView s := by
  unfold bindVoice
  split
  · split <;> rfl
  · rfl

/-- A JOINING slot's entering STREAMING is a move (R63). -/
theorem moves_enterStreaming {k : SlotId} {s : State} (d : Declared) (h : s.slots[k].state = .joining) :
    Moves s (enterStreaming k d s) := by
  have hslot : Moves s (s.setSlot k s.slots[k].begin) := moves_setSlot (by rw [h]; nofun) nofun rfl
  exact hslot.trans (.of_view (earbudView_bindVoice k d _))

/-- The slot that takes a JOIN_ACK is JOINING (R62). -/
theorem joining_of_joinAckFor {h : AirHeader} {s : State} {k : SlotId} (hk : joinAckFor h s = some k) :
    s.slots[k].state = .joining := by
  unfold joinAckFor at hk
  split at hk
  · split at hk
    · next hj => cases hk; exact hj.1
    · cases hk
  · cases hk

theorem moves_joinAck (h : AirHeader) (accepts : Bool) (proof : Key) (s : State) : Moves s (joinAck h accepts proof s) := by
  unfold joinAck
  split
  · next k hk =>
    unfold answerJoin
    split
    · split
      · split
        · exact moves_enterStreaming _ (joining_of_joinAckFor hk)
        · exact moves_endJoin 4 k s
      · exact .refl s
    · exact moves_endJoin 3 k s
  · exact .refl s

theorem moves_joinNoAnswer (k : SlotId) (s : State) : Moves s (joinNoAnswer k s) := by
  unfold joinNoAnswer
  split
  · exact moves_endJoin 5 k s
  · exact .refl s

theorem moves_earLeave (body : List Byte) (s : State) : Moves s (earLeave body s).state := by
  unfold earLeave
  split
  · split
    · exact .refl s
    · next k hk =>
      cases hs : s.slots[k].state with
      | free => exact .refl s
      | joining => exact moves_endJoin 6 k s
      | streaming => exact moves_enterLeaving hs
      | leaving => exact .refl s
  · exact .refl s

theorem moves_leaveAck (h : AirHeader) (s : State) : Moves s (leaveAck h s) := by
  unfold leaveAck
  split
  · exact moves_freeSlot _ s
  · exact .refl s

theorem moves_leaveUnanswered (k : SlotId) (s : State) : Moves s (leaveUnanswered k s) := by
  unfold leaveUnanswered
  split
  · exact moves_freeSlot k s
  · exact .refl s

theorem moves_linkLoss (k : SlotId) (s : State) : Moves s (linkLoss k s) := by
  have hend : earbudView (endStream k s) = earbudView s := by
    unfold endStream
    split
    · exact earbudView_leaveStreaming k s
    · rfl
  unfold linkLoss
  split
  · exact (Moves.of_view hend).trans ((moves_freeSlot k _).trans (.of_view rfl))
  · exact .refl s

/-! ### The receive queues (R82 to R105) -/

/-- An accepted arrival does not show in the view (R85). -/
theorem earbudView_acceptArrival (k : SlotId) (e : QueueEntry) (s : State) : earbudView (acceptArrival k e s) = earbudView s := by
  rw [acceptArrival_eq]
  exact earbudView_setSlot_of_eq (k := k) (x := { s.slots[k] with lastAccepted := some e.sequence }) (s := s) rfl rfl

theorem earbudView_takeArrival (k : SlotId) (e : QueueEntry) (s : State) : earbudView (takeArrival k e s) = earbudView s := by
  unfold takeArrival
  split
  · rfl
  · split
    · rfl
    · split
      · rfl
      · exact earbudView_acceptArrival k e s

theorem moves_takeUp (h : AirHeader) (f : UpFrame) (s : State) : Moves s (takeUp h f s) := by
  unfold takeUp
  split
  · next k retried hk =>
    refine .of_view ((earbudView_takeArrival k _ _).trans ?_)
    unfold noteHeard
    dsimp only
    split <;> exact earbudView_setSlot_of_eq (k := k) (x := { s.slots[k] with heard := true }) (s := s) rfl rfl
  · exact .refl s

theorem moves_fillTimeout (k : SlotId) (s : State) : Moves s (fillTimeout k s) := by
  unfold fillTimeout
  split <;> exact .of_view rfl

theorem moves_driftWindowClose (k : SlotId) (s : State) : Moves s (driftWindowClose k s) := by
  refine .of_view ?_
  unfold driftWindowClose
  split
  · unfold closeWindowWith raiseHold
    split <;> rfl
  · rfl

end Sys2Proof.Machine
end

section
/-! The moves of the commands of pairing: `moves_f` says that `f` makes moves of the earbuds alone. -/

namespace Sys2Proof.Machine

open Sys2Proof

/-! ### The candidate list (R36 to R38, R41) -/

/-- A list without some of its candidates stays well formed. -/
theorem wellListed.sublist {l m : List Candidate} (h : wellListed m) (hs : l.Sublist m) : wellListed l := by
  obtain ⟨hlen, hnodup⟩ := h
  exact ⟨hs.length_le.trans hlen, hnodup.sublist (hs.map _)⟩

/-- A list with a candidate of another address added stays well formed, where it has room. -/
theorem wellListed.append {x : Candidate} {l : List Candidate} (h : wellListed l) (hlen : l.length < 4)
    (hx : x.address ∉ l.map Candidate.address) : wellListed (l ++ [x]) := by
  refine ⟨by rw [List.length_append]; exact hlen, ?_⟩
  rw [List.map_append, List.map_singleton]
  exact (List.nodup_append_comm.1 (List.nodup_cons.2 ⟨hx, h.2⟩))

/-- A candidate heard again keeps the addresses of the list (R36). -/
theorem refresh_addresses (a : Address) (quality : Byte) (interval : Count32) (l : List Candidate) :
    (refresh a quality interval l).map Candidate.address = l.map Candidate.address := by
  rw [refresh, List.map_map]
  refine List.map_congr_left fun x _ => ?_
  rw [Function.comp_apply]
  split <;> rfl

/-- The lowest quality is below every bound that is not met by a candidate (R37). -/
theorem foldl_min_quality (q : Nat) (l : List Candidate) :
    l.foldl (fun q x => min q x.quality.toNat) q = q
      ∨ ∃ x ∈ l, x.quality.toNat = l.foldl (fun q x => min q x.quality.toNat) q := by
  induction l generalizing q with
  | nil => exact .inl rfl
  | cons y l ih =>
    rw [List.foldl_cons]
    rcases ih (min q y.quality.toNat) with h | ⟨x, hx, h⟩
    · rw [h]
      rcases Nat.le_total q y.quality.toNat with hq | hq
      · exact .inl (Nat.min_eq_left hq)
      · exact .inr ⟨y, List.mem_cons_self, (Nat.min_eq_right hq).symm⟩
    · exact .inr ⟨x, List.mem_cons_of_mem y hx, h⟩

/-- A lowest quality below 255 is that of a candidate (R37). -/
theorem exists_lowestQuality {l : List Candidate} (h : lowestQuality l < 255) :
    ∃ x ∈ l, x.quality.toNat = lowestQuality l :=
  (foldl_min_quality 255 l).resolve_left (Nat.ne_of_lt h)

/-- A list without the last candidate of a quality is a part of the list (R37). -/
theorem removeLastOf_sublist (q : Nat) (l : List Candidate) : (removeLastOf q l).Sublist l := by
  have h := (List.eraseP_sublist (l := l.reverse) (p := fun x => x.quality.toNat == q)).reverse
  rwa [List.reverse_reverse] at h

/-- The removal of a quality that a candidate has makes room for one (R37). -/
theorem removeLastOf_length {q : Nat} {l : List Candidate} (h : ∃ x ∈ l, x.quality.toNat = q) :
    (removeLastOf q l).length = l.length - 1 := by
  obtain ⟨x, hx, hq⟩ := h
  rw [removeLastOf, List.length_reverse, List.length_eraseP_of_mem (List.mem_reverse.2 hx) (by simpa using hq),
    List.length_reverse]

/-- An address that is not listed is that of no candidate. -/
theorem not_mem_of_not_listed {a : Address} {l : List Candidate} (h : listed a l = false) : a ∉ l.map Candidate.address := by
  intro hm
  obtain ⟨x, hx, rfl⟩ := List.mem_map.1 hm
  have := List.any_eq_false.1 h x hx
  simp at this

/-- An ASK heard keeps the candidate list well formed (R36, R37). -/
theorem wellListed_hearCandidate (x : Candidate) {l : List Candidate} (h : wellListed l) : wellListed (hearCandidate x l).1 := by
  unfold hearCandidate
  split
  · have ha := refresh_addresses x.address x.quality x.lastHeard l
    refine ⟨?_, by rw [ha]; exact h.2⟩
    rw [refresh, List.length_map]
    exact h.1
  · next hnew =>
    have hx := not_mem_of_not_listed (Bool.eq_false_iff.2 hnew)
    split
    · next hroom => exact h.append hroom hx
    · next hfull =>
      split
      · next hq =>
        have hsub := removeLastOf_sublist (lowestQuality l) l
        have hbyte : x.quality.toNat < 256 := x.quality.isLt
        have hlen := removeLastOf_length (exists_lowestQuality (l := l) (by omega))
        have hle := h.1
        exact (h.sublist hsub).append (by omega) fun hm => hx ((hsub.map _).subset hm)
      · exact h

/-! ### The ends of a handshake (R46 to R48) -/

/-- The end of a handshake shows in the view. -/
theorem earbudView_endHandshake (s : State) : earbudView (endHandshake s) = (earbudView s).ended := rfl

/-- The failure of a pairing is a move (R47). -/
theorem moves_failPairing (reason : FailReason) (s : State) : Moves s (failPairing reason s) := by
  refine .single (.fail (earbudView s)) ?_
  have hreleased : earbudView (releaseReservation s.pair.reservedEntry s)
      = (earbudView s).releaseReservation s.pair.reservedEntry := by
    cases s.pair.reservedEntry with
    | none => rfl
    | some i => exact earbudView_setEntry i .free s
  show earbudView (endHandshake { releaseReservation s.pair.reservedEntry s with keyUnit := s.keyUnit.discard }) = _
  rw [earbudView_endHandshake]
  exact congrArg EarbudView.ended hreleased

theorem moves_windowEnd (s : State) : Moves s (windowEnd s) := by
  unfold windowEnd
  split
  · exact moves_failPairing _ s
  · exact .refl s

theorem moves_bindNoAnswer (s : State) : Moves s (bindNoAnswer s) := by
  unfold bindNoAnswer
  split
  · exact (Moves.of_view rfl).trans (moves_failPairing _ (passToOffset 4000 s))
  · exact .refl s

theorem moves_turnFirstHalfEnd (s : State) : Moves s (turnFirstHalfEnd s) := by
  have hpassed : Moves s (passToOffset 2000 s) := .of_view rfl
  unfold turnFirstHalfEnd
  split
  · unfold endAbandon
    split
    · split
      · exact hpassed.trans (moves_failPairing _ _)
      · exact hpassed
    · exact hpassed
  · exact .refl s

/-! ### The handshake's way through its states (R35 to R45) -/

/-- A handshake that goes on to another of its states, nothing else in the view changed, makes a move. -/
theorem moves_handshake {s t : State} (hs : s.pair.state ≠ .idle) (ht : t.pair.state ≠ .idle)
    (hv : earbudView t = { earbudView s with pairState := t.pair.state }) : Moves s t :=
  .single (.handshake (earbudView s) t.pair.state hs ht) hv

/-- A change of the candidate list that keeps it well formed, nothing else in the view changed, is a move. -/
theorem moves_list {s t : State} (hc : wellListed s.pair.candidates → wellListed t.pair.candidates)
    (hv : earbudView t = { earbudView s with candidates := t.pair.candidates }) : Moves s t :=
  .single (.list (earbudView s) t.pair.candidates hc) hv

/-- The entry that a reservation takes is FREE (R28). -/
theorem free_of_lowestFreeEntry {roster : Vector RosterEntry 8} {i : EntryId} (h : lowestFreeEntry roster = some i) :
    roster[i] = .free := by
  simpa using List.find?_some h

theorem moves_pairStart (body : List Byte) (s : State) : Moves s (pairStart body s).state := by
  unfold pairStart
  split
  · split
    · next hidle =>
      split
      · next i hi =>
        refine .single (.reserve (earbudView s) i hidle (free_of_lowestFreeEntry hi)) ?_
        rw [← earbudView_setEntry]
        rfl
      · exact .refl s
    · exact .refl s
  · exact .refl s

theorem moves_ask (h : AirHeader) (raw : RawDeclared) (quality : Byte) (s : State) : Moves s (ask h raw quality s) := by
  unfold ask
  split
  · split
    · next d hd =>
      refine (moves_list (t := s.setPair { s.pair with candidates := _ })
        (wellListed_hearCandidate ⟨d, quality, s.air.interval⟩) rfl).trans (.of_view ?_)
      unfold raiseCandidate
      split <;> rfl
    · exact .refl s
  · exact .refl s

theorem moves_candidateExpiry (s : State) : Moves s (candidateExpiry s) := by
  unfold candidateExpiry
  split
  · exact moves_list (fun h => h.sublist List.filter_sublist) rfl
  · exact .refl s

theorem moves_pairPick (body : List Byte) (s : State) : Moves s (pairPick body s).state := by
  unfold pairPick
  split
  · split
    · next hlisten =>
      split
      · exact .refl s
      · split
        · exact .refl s
        · next x hx =>
          split
          · exact .refl s
          · split
            · exact .refl s
            · exact moves_handshake (by rw [hlisten]; nofun) nofun rfl
    · exact .refl s
  · exact .refl s

/-- A confirmation in COMPARE leads on or stands; its reservation and its candidates stand (R44). -/
theorem PairContext.settleConfirmed_cases (p : PairContext) :
    (p.state = .compare ∧ p.settleConfirmed = { p with state := .binding, bindCount := 0 }) ∨ p.settleConfirmed = p := by
  unfold settleConfirmed
  split
  · next h => exact .inl ⟨h.1, rfl⟩
  · exact .inr rfl

/-- A confirmation noted makes a move or none (R44). -/
theorem moves_settleConfirmed {p : PairContext} {s : State} (hs : p.state = s.pair.state)
    (hr : p.reservedEntry = s.pair.reservedEntry) (hc : p.candidates = s.pair.candidates) :
    Moves s (s.setPair p.settleConfirmed) := by
  rcases p.settleConfirmed_cases with ⟨hcompare, he⟩ | he
  · rw [he]
    refine moves_handshake (by rw [← hs, hcompare]; nofun) nofun ?_
    simp only [earbudView, State.setPair, hr, hc]
  · rw [he]
    refine .of_view ?_
    simp only [earbudView, State.setPair, hs, hr, hc]

theorem moves_pairConfirm (body : List Byte) (s : State) : Moves s (pairConfirm body s).state := by
  unfold pairConfirm
  split
  · split
    · split
      · exact moves_settleConfirmed (p := { s.pair with hostConfirmed := true }) rfl rfl rfl
      · exact .of_view rfl
      · exact .refl s
    · exact .refl s
  · exact .refl s

theorem moves_confirm (h : AirHeader) (s : State) : Moves s (confirm h s) := by
  unfold confirm
  split
  · exact moves_settleConfirmed (p := { s.pair with earConfirmed := true }) rfl rfl rfl
  · exact .refl s

theorem moves_reject (h : AirHeader) (s : State) : Moves s (reject h s) := by
  unfold reject
  split
  · exact moves_failPairing _ s
  · exact .refl s

theorem moves_pairCancel (body : List Byte) (s : State) : Moves s (pairCancel body s).state := by
  unfold pairCancel
  split
  · split
    · exact .refl s
    · show Moves s (cancelPairing s)
      unfold cancelPairing
      split
      · split
        · exact moves_failPairing _ s
        · exact .of_view rfl
      · exact .refl s
  · exact .refl s

theorem moves_accept (h : AirHeader) (earValue : PublicValue) (s : State) : Moves s (accept h earValue s) := by
  unfold accept
  split
  · next ht =>
    have hoffered := ((takenFromPartner_iff .offered h s).1 ht).2
    exact moves_handshake (by rw [hoffered]; nofun) nofun rfl
  · exact .refl s

theorem moves_offerTimeout (s : State) : Moves s (offerTimeout s) := by
  unfold offerTimeout
  split
  · next hdue =>
    split
    · exact .of_view rfl
    · have hoffered : s.pair.state ≠ .idle := by
        intro hidle
        simp [offerTimeoutDue, hidle] at hdue
      have hlisten : Moves s (s.setPair { s.pair with state := .listen }) := moves_handshake hoffered nofun rfl
      have hfailed : Moves (s.setPair { s.pair with state := .listen })
          (pairEvent 4 FailReason.noAnswer.code (s.setPair s.pair.failPick)) :=
        moves_list (fun h => h.sublist List.filter_sublist) rfl
      exact (hlisten.trans hfailed).trans (moves_windowEnd _)
  · exact .refl s

theorem moves_keyComputationDone (s : State) : Moves s (keyComputationDone s) := by
  unfold keyComputationDone
  split
  · next k hk =>
    split
    · next hd =>
      have hkeying : s.pair.state ≠ .idle := by
        intro hidle
        simp [delivers, hidle] at hd
      exact moves_handshake hkeying nofun rfl
    · exact .of_view rfl
  · exact .refl s

theorem moves_compareTimeout (s : State) : Moves s (compareTimeout s) := by
  unfold compareTimeout
  split <;> exact .of_view rfl

/-! ### The bond (R29, R46) -/

/-- What the roster answers to a bind, by whether an entry holds the address (R29). -/
theorem judgeBind_rebonded {reserved i : EntryId} {d : Declared} {roster : Vector RosterEntry 8}
    (h : judgeBind reserved d roster = .rebonded i) :
    holdsAddress d.address roster[i] = true ∧ roster[i].isInCall = false ∧ placeHeldElsewhere i d.place roster = false := by
  unfold judgeBind at h
  split at h
  · next j hj =>
    split at h
    · cases h
    · next hcall =>
      split at h
      · cases h
      · next hplace =>
        cases h
        exact ⟨by simpa using List.find?_some hj, by simpa using hcall, by simpa using hplace⟩
  · split at h <;> cases h

/-- The roster bonds the reserved entry where no entry holds the address and no other the place (R29). -/
theorem judgeBind_bonded {reserved i : EntryId} {d : Declared} {roster : Vector RosterEntry 8}
    (h : judgeBind reserved d roster = .bonded i) :
    i = reserved ∧ (∀ j : EntryId, holdsAddress d.address roster[j] = false)
      ∧ placeHeldElsewhere reserved d.place roster = false := by
  unfold judgeBind at h
  split at h
  · split at h
    · cases h
    · split at h <;> cases h
  · next hnone =>
    split at h
    · cases h
    · next hplace =>
      cases h
      refine ⟨rfl, fun j => ?_, by simpa using hplace⟩
      simpa using List.find?_eq_none.1 hnone j (List.mem_finRange j)

/-- An entry that holds an address and is not IN_CALL may be written. -/
theorem writable_of_holdsAddress {a : Address} {e : RosterEntry} (h : holdsAddress a e = true) (hc : e.isInCall = false) :
    e.writable = true := by
  cases e with
  | free => cases h
  | reserved => cases h
  | bonded => rfl
  | inCall => cases hc

/-- The roster's answer to a bind makes the moves of a write and of the handshake's end, or none (R29, R46). -/
theorem moves_settleBind {reserved : EntryId} {s : State} (c : Contents) (hr : s.pair.reservedEntry = some reserved) :
    Moves s (settleBind reserved c s) := by
  unfold settleBind
  split
  · exact .of_view rfl
  · exact .of_view rfl
  · next i hi =>
    obtain ⟨haddress, hcall, hplace⟩ := judgeBind_rebonded hi
    have hwritten : Moves s (s.setEntry i (.bonded c)) :=
      .single (.write (earbudView s) i c (writable_of_holdsAddress haddress hcall) (.inl haddress)
        ((placeHeldElsewhere_eq_false _ _ _).1 hplace)) (earbudView_setEntry _ _ s)
    refine hwritten.trans (.single (.fail _) ?_)
    show earbudView (endHandshake ((s.setEntry i (.bonded c)).setEntry reserved .free))
      = ((earbudView (s.setEntry i (.bonded c))).releaseReservation s.pair.reservedEntry).ended
    rw [earbudView_endHandshake, earbudView_setEntry reserved, hr]
    rfl
  · next i hi =>
    obtain ⟨rfl, haddress, hplace⟩ := judgeBind_bonded hi
    have hdiffer : ∀ j : EntryId, j ≠ i → entriesDiffer (.bonded c) s.roster[j] = true := fun j hj => by
      rw [entriesDiffer_bonded, haddress j, (placeHeldElsewhere_eq_false _ _ _).1 hplace j hj]
      rfl
    refine .single (.bond (earbudView s) i c hr hdiffer) ?_
    show earbudView (endHandshake (s.setEntry i (.bonded c))) = _
    rw [earbudView_endHandshake, earbudView_setEntry]

theorem moves_bound (h : AirHeader) (s : State) : Moves s (bound h s) := by
  unfold bound
  split
  · split
    · next hr hx hk => exact moves_settleBind _ hr
    · exact .refl s
  · exact .refl s

end Sys2Proof.Machine
end

section
/-! The moves of the commands that the laws of the earbuds do not see, of the air interval, and of every step. -/

namespace Sys2Proof.Machine

open Sys2Proof

/-! ### The requests that do not show in the view -/

theorem moves_hello (body : List Byte) (s : State) : Moves s (hello body s).state := by
  unfold hello
  split <;> exact .of_view rfl

theorem moves_resetSoft (body : List Byte) (s : State) : Moves s (resetSoft body s).state := by
  unfold resetSoft
  split <;> exact .of_view rfl

theorem moves_noticeRoute (body : List Byte) (s : State) : Moves s (noticeRoute body s).state := by
  unfold noticeRoute
  split
  · split
    · split <;> exact .of_view rfl
    · exact .refl s
  · exact .refl s

theorem moves_noticeMask (body : List Byte) (s : State) : Moves s (noticeMask body s).state := by
  unfold noticeMask
  split
  · split <;> exact .of_view rfl
  · exact .refl s

theorem moves_noticeAck (body : List Byte) (s : State) : Moves s (noticeAck body s).state := by
  unfold noticeAck
  split
  · split
    · split <;> exact .of_view rfl
    · exact .refl s
  · exact .refl s

theorem moves_noticePoll (body : List Byte) (s : State) : Moves s (noticePoll body s).state := by
  unfold noticePoll
  split
  · split
    · split
      · split <;> exact .of_view rfl
      · exact .refl s
    · exact .refl s
  · exact .refl s

theorem moves_queueSet (body : List Byte) (s : State) : Moves s (queueSet body s).state := by
  unfold queueSet
  split
  · dsimp only
    split
    · exact .of_view rfl
    · split <;> exact .of_view rfl
  · exact .refl s

theorem moves_statsGet (body : List Byte) (s : State) : Moves s (statsGet body s).state := by
  unfold statsGet
  split
  · split <;> exact .refl s
  · exact .refl s

theorem moves_mixSet (body : List Byte) (s : State) : Moves s (mixSet body s).state := by
  unfold mixSet
  split
  · split <;> exact .of_view rfl
  · exact .refl s

theorem moves_mixCommit (body : List Byte) (s : State) : Moves s (mixCommit body s).state := by
  unfold mixCommit
  split
  · split <;> exact .of_view rfl
  · exact .refl s

theorem moves_mixGet (body : List Byte) (s : State) : Moves s (mixGet body s).state := by
  unfold mixGet
  split
  · split <;> exact .refl s
  · exact .refl s

theorem moves_sinkSet (body : List Byte) (s : State) : Moves s (sinkSet body s).state := by
  unfold sinkSet
  split
  · split <;> exact .of_view rfl
  · exact .refl s

theorem moves_voiceSet (body : List Byte) (s : State) : Moves s (voiceSet body s).state := by
  unfold voiceSet
  split
  · split <;> exact .of_view rfl
  · exact .refl s

theorem moves_watchSet (body : List Byte) (s : State) : Moves s (watchSet body s).state := by
  unfold watchSet
  split
  · split <;> exact .of_view rfl
  · exact .refl s

/-! ### The Control Port (R172 to R176) -/

theorem moves_receiveByte (b : Byte) (s : State) : Moves s (receiveByte b s) := by
  unfold receiveByte
  split
  · exact .refl s
  · split
    · exact .of_view rfl
    · unfold settleFrame
      split <;> exact .of_view rfl

theorem moves_byteTimeout (s : State) : Moves s (byteTimeout s) := by
  unfold byteTimeout
  split <;> exact .of_view rfl

theorem moves_transmitStart (hostReady : Bool) (s : State) : Moves s (transmitStart hostReady s) := by
  unfold transmitStart
  split
  · unfold chooseFrame
    split
    · exact .of_view rfl
    · split
      · exact .of_view rfl
      · split <;> exact .of_view rfl
  · exact .refl s

theorem moves_transmitDone (s : State) : Moves s (transmitDone s) := by
  unfold transmitDone
  split
  · exact .refl s
  · split <;> exact .of_view rfl

/-- The reset of the part is a move (R2). -/
theorem moves_resetPart (s : State) : Moves s (resetPart s) := .single (.reset _) rfl

theorem moves_softReset (s : State) : Moves s (softReset s) := by
  unfold softReset
  split
  · exact moves_resetPart s
  · exact .refl s

/-! ### The slots of the interval (R54, R70 to R75) -/

theorem moves_markRetry (k : SlotId) (s : State) : Moves s (markRetry k s) := by
  unfold markRetry
  split
  · exact .of_view (earbudView_setSlot_of_eq rfl rfl)
  · exact .refl s

theorem moves_grantSpare (s : State) : Moves s (grantSpare s) := by
  unfold grantSpare
  split
  · next k hk =>
    exact .of_view (earbudView_setSlot_of_eq (k := k) (x := { s.slots[k] with retryCandidate := false }) (s := s) rfl rfl)
  · exact .refl s

theorem moves_denyRetry (code : Byte) (k : SlotId) (s : State) : Moves s (denyRetry code k s) := by
  unfold denyRetry
  split
  · exact .of_view (earbudView_setSlot_of_eq (k := k) (x := { s.slots[k] with retryCandidate := false }) (s := s) rfl rfl)
  · exact .refl s

/-- The DOWN frame of a slot does not show in the view (R75). -/
theorem earbudView_sendDown (k : SlotId) (s : State) : earbudView (sendDown k s) = earbudView s := by
  have hslot : ∀ (sequence : Sequence) (last : Option Block),
      earbudView (s.setSlot k { s.slots[k] with downSequence := sequence, lastSent := last }) = earbudView s :=
    fun _ _ => earbudView_setSlot_of_eq rfl rfl
  unfold sendDown
  split
  · exact hslot _ _
  · exact hslot _ _
  · exact hslot _ _

theorem moves_startDownlink (k : SlotId) (s : State) : Moves s (startDownlink k s) := by
  have hslot : ∀ c : Carried, earbudView (s.setSlot k { s.slots[k] with carried := c }) = earbudView s :=
    fun _ => earbudView_setSlot_of_eq rfl rfl
  unfold startDownlink
  split
  · exact .refl s
  · exact .of_view (hslot .joinReq)
  · exact .of_view (earbudView_sendDown k (setUse (.downlink k) s))
  · exact .of_view (hslot .leave)

theorem moves_startUplink (k : SlotId) (s : State) : Moves s (startUplink k s) := by
  unfold startUplink
  split <;> exact .of_view rfl

theorem moves_startTurn (s : State) : Moves s (startTurn s) := by
  unfold startTurn sendTurnFrame
  split
  · split
    · exact .of_view rfl
    · exact .of_view rfl
    · split <;> exact .of_view rfl
    · exact .of_view rfl
    · exact .of_view rfl
    · exact .of_view rfl
  · exact .of_view rfl

theorem moves_startSlotNine (s : State) : Moves s (startSlotNine s) := by
  unfold startSlotNine
  split
  · exact (moves_grantSpare s).trans (forEachSlot_of_trans .trans (moves_denyRetry 1) _)
  · exact (moves_startTurn s).trans (forEachSlot_of_trans .trans (moves_denyRetry 2) _)

theorem moves_runSlot (n : Fin 10) (s : State) : Moves s (runSlot n s) := by
  match n with
  | 0 => exact moves_startDownlink 0 s
  | 1 => exact moves_startUplink 0 s
  | 2 => exact (moves_markRetry 0 s).trans (moves_startDownlink 1 _)
  | 3 => exact moves_startUplink 1 s
  | 4 => exact (moves_markRetry 1 s).trans (moves_startDownlink 2 _)
  | 5 => exact moves_startUplink 2 s
  | 6 => exact (moves_markRetry 2 s).trans (moves_startDownlink 3 _)
  | 7 => exact moves_startUplink 3 s
  | 8 => exact (moves_markRetry 3 s).trans (moves_grantSpare _)
  | 9 => exact moves_startSlotNine s

/-! ### The interval's end (R53) -/

theorem moves_finishSlot (k : SlotId) (s : State) : Moves s (finishSlot k s) :=
  (moves_leaveUnanswered k s).trans ((moves_joinNoAnswer k _).trans ((moves_linkLoss k _).trans
    ((moves_driftWindowClose k _).trans (moves_fillTimeout k _))))

theorem moves_finishInterval (s : State) : Moves s (finishInterval s) :=
  (forEachSlot_of_trans .trans moves_finishSlot s).trans ((moves_offerTimeout _).trans ((moves_compareTimeout _).trans
    ((moves_keyComputationDone _).trans ((moves_windowEnd _).trans (moves_candidateExpiry _)))))

/-- The counts of the pairing context leave its state, its reservation and its candidates (R39, R41, R45). -/
theorem PairContext.endInterval_stands (use : SlotUse) (p : PairContext) :
    (p.endInterval use).state = p.state ∧ (p.endInterval use).reservedEntry = p.reservedEntry
      ∧ (p.endInterval use).candidates = p.candidates := by
  have hturn : (p.countTurn use).state = p.state ∧ (p.countTurn use).reservedEntry = p.reservedEntry
      ∧ (p.countTurn use).candidates = p.candidates := by
    unfold countTurn
    split <;> exact ⟨rfl, rfl, rfl⟩
  have hwaits : (p.countWaits use).state = p.state ∧ (p.countWaits use).reservedEntry = p.reservedEntry
      ∧ (p.countWaits use).candidates = p.candidates := by
    unfold countWaits
    split
    · split <;> exact hturn
    · exact ⟨rfl, rfl, rfl⟩
  unfold endInterval countWindow
  split <;> exact hwaits

/-- The counts of an interval's end do not show in the view. -/
theorem earbudView_countInterval (s : State) : earbudView (countInterval s) = earbudView s := by
  obtain ⟨hstate, hreserved, hcandidates⟩ := s.pair.endInterval_stands s.air.use
  have hslot : ∀ k : SlotId, (countInterval s).slots[k] = s.slots[k].endInterval := fun k => Vector.getElem_map _ k.isLt
  refine EarbudView.ext rfl rfl hstate hreserved hcandidates (funext fun k => ?_) (funext fun k => ?_)
  · show (countInterval s).slots[k].state = s.slots[k].state
    rw [hslot]
    rfl
  · show (countInterval s).slots[k].rosterIndex = s.slots[k].rosterIndex
    rw [hslot]
    rfl

theorem moves_airIntervalEnd (s : State) : Moves s (airIntervalEnd s) := by
  have hfinished : Moves s (if s.air.slot = none then finishInterval s else s) := by
    split
    · exact moves_finishInterval s
    · exact .refl s
  exact ((hfinished.trans (moves_turnFirstHalfEnd _)).trans (moves_bindNoAnswer _)).trans
    ((Moves.of_view (earbudView_countInterval _)).trans (.of_view rfl))

theorem moves_slotStart (s : State) : Moves s (slotStart s) := by
  unfold slotStart
  split
  · next n hn =>
    have hfinished : Moves s (if n = 0 then finishInterval s else s) := by
      split
      · exact moves_finishInterval s
      · exact .refl s
    exact (hfinished.trans (t := _) (.of_view rfl)).trans (moves_runSlot n (beginSlot n _))
  · exact .refl s

/-! ### Every command -/

theorem moves_unknownKindRequest (kind tag : Byte) (body : List Byte) (s : State) :
    Moves s (if isRequestKind kind then s else takeWith 0x80 ⟨kind, tag, body⟩ (refuse .unknownKind) s) := by
  split
  · exact .refl s
  · exact moves_takeWith _ _ Moves.refl s

/-- Every command makes moves alone. -/
theorem moves_exec (c : Instr) (s : State) : ∃ t : State, exec c s = .next t ∧ Moves s t := by
  have hpassed : ∀ elapsed : Tick, Moves s (passTime elapsed s) := fun _ => .of_view rfl
  cases c with
  | powerOnReset => exact ⟨_, rfl, moves_resetPart s⟩
  | hello tag body => exact ⟨_, rfl, moves_takeRequest _ tag body (moves_hello body) s⟩
  | resetSoft tag body => exact ⟨_, rfl, moves_takeRequest _ tag body (moves_resetSoft body) s⟩
  | softResetPerformed => exact ⟨_, rfl, moves_softReset s⟩
  | callOpen tag body => exact ⟨_, rfl, moves_takeRequest _ tag body (moves_callOpen body) s⟩
  | callHold tag body => exact ⟨_, rfl, moves_takeRequest _ tag body (moves_callHold body) s⟩
  | callResume tag body => exact ⟨_, rfl, moves_takeRequest _ tag body (moves_callResume body) s⟩
  | callClose tag body => exact ⟨_, rfl, moves_takeRequest _ tag body (moves_callClose body) s⟩
  | callGet tag body => exact ⟨_, rfl, moves_takeRequest _ tag body (moves_callGet body) s⟩
  | rosterPut tag body => exact ⟨_, rfl, moves_takeRequest _ tag body (moves_rosterPut body) s⟩
  | rosterGet tag body => exact ⟨_, rfl, moves_takeRequest _ tag body (moves_rosterGet body) s⟩
  | rosterDrop tag body => exact ⟨_, rfl, moves_takeRequest _ tag body (moves_rosterDrop body) s⟩
  | pairStart tag body => exact ⟨_, rfl, moves_takeRequest _ tag body (moves_pairStart body) s⟩
  | pairPick tag body => exact ⟨_, rfl, moves_takeRequest _ tag body (moves_pairPick body) s⟩
  | pairConfirm tag body => exact ⟨_, rfl, moves_takeRequest _ tag body (moves_pairConfirm body) s⟩
  | pairCancel tag body => exact ⟨_, rfl, moves_takeRequest _ tag body (moves_pairCancel body) s⟩
  | earJoin tag body => exact ⟨_, rfl, moves_takeRequest _ tag body (moves_earJoin body) s⟩
  | earLeave tag body => exact ⟨_, rfl, moves_takeRequest _ tag body (moves_earLeave body) s⟩
  | queueSet tag body => exact ⟨_, rfl, moves_takeRequest _ tag body (moves_queueSet body) s⟩
  | mixSet tag body => exact ⟨_, rfl, moves_takeRequest _ tag body (moves_mixSet body) s⟩
  | mixCommit tag body => exact ⟨_, rfl, moves_takeRequest _ tag body (moves_mixCommit body) s⟩
  | mixGet tag body => exact ⟨_, rfl, moves_takeRequest _ tag body (moves_mixGet body) s⟩
  | voiceSet tag body => exact ⟨_, rfl, moves_takeRequest _ tag body (moves_voiceSet body) s⟩
  | watchSet tag body => exact ⟨_, rfl, moves_takeRequest _ tag body (moves_watchSet body) s⟩
  | sinkSet tag body => exact ⟨_, rfl, moves_takeRequest _ tag body (moves_sinkSet body) s⟩
  | statsGet tag body => exact ⟨_, rfl, moves_takeRequest _ tag body (moves_statsGet body) s⟩
  | noticeRoute tag body => exact ⟨_, rfl, moves_takeRequest _ tag body (moves_noticeRoute body) s⟩
  | noticeMask tag body => exact ⟨_, rfl, moves_takeRequest _ tag body (moves_noticeMask body) s⟩
  | noticeAck tag body => exact ⟨_, rfl, moves_takeRequest _ tag body (moves_noticeAck body) s⟩
  | noticePoll tag body => exact ⟨_, rfl, moves_takeRequest _ tag body (moves_noticePoll body) s⟩
  | unknownKindRequest kind tag body => exact ⟨_, rfl, moves_unknownKindRequest kind tag body s⟩
  | controlPortByte elapsed byte => exact ⟨_, rfl, (hpassed elapsed).trans (moves_receiveByte byte _)⟩
  | byteTimeout elapsed => exact ⟨_, rfl, (hpassed elapsed).trans (moves_byteTimeout _)⟩
  | frameToRequest => exact ⟨_, rfl, .of_view rfl⟩
  | transmitStart hostReady => exact ⟨_, rfl, moves_transmitStart hostReady s⟩
  | transmitDone => exact ⟨_, rfl, moves_transmitDone s⟩
  | airIntervalEnd => exact ⟨_, rfl, moves_airIntervalEnd s⟩
  | slotStart => exact ⟨_, rfl, moves_slotStart s⟩
  | ask h declared quality => exact ⟨_, rfl, moves_ask h declared quality s⟩
  | accept h earValue => exact ⟨_, rfl, moves_accept h earValue s⟩
  | confirm h => exact ⟨_, rfl, moves_confirm h s⟩
  | reject h => exact ⟨_, rfl, moves_reject h s⟩
  | bound h => exact ⟨_, rfl, moves_bound h s⟩
  | joinAck h accepts proof => exact ⟨_, rfl, moves_joinAck h accepts proof s⟩
  | leaveAck h => exact ⟨_, rfl, moves_leaveAck h s⟩
  | up h frame => exact ⟨_, rfl, moves_takeUp h frame s⟩
  | pairTurnFirstHalfEnd => exact ⟨_, rfl, moves_turnFirstHalfEnd s⟩
  | bindNoAnswer => exact ⟨_, rfl, moves_bindNoAnswer s⟩
  | candidateExpiry => exact ⟨_, rfl, moves_candidateExpiry s⟩
  | windowEnd => exact ⟨_, rfl, moves_windowEnd s⟩
  | offerTimeout => exact ⟨_, rfl, moves_offerTimeout s⟩
  | keyComputationDone => exact ⟨_, rfl, moves_keyComputationDone s⟩
  | compareTimeout => exact ⟨_, rfl, moves_compareTimeout s⟩
  | joinNoAnswer k => exact ⟨_, rfl, moves_joinNoAnswer k s⟩
  | leaveUnanswered k => exact ⟨_, rfl, moves_leaveUnanswered k s⟩
  | linkLoss k => exact ⟨_, rfl, moves_linkLoss k s⟩
  | fillTimeout k => exact ⟨_, rfl, moves_fillTimeout k s⟩
  | driftWindowClose k => exact ⟨_, rfl, moves_driftWindowClose k s⟩
  | sync elapsed first second => exact ⟨_, rfl, (hpassed elapsed).trans (moves_takeSync first second _)⟩
  | syncLoss elapsed => exact ⟨_, rfl, (hpassed elapsed).trans (moves_syncLoss _)⟩
  | freeRunningBlockEvent elapsed => exact ⟨_, rfl, (hpassed elapsed).trans (moves_freeRunningBlockEvent _)⟩
  | lockTimeout elapsed => exact ⟨_, rfl, (hpassed elapsed).trans (moves_lockTimeout _)⟩

/-- A command that goes on has made moves alone. -/
theorem moves_of_exec {c : Instr} {s t : State} (h : exec c s = .next t) : Moves s t := by
  obtain ⟨u, hu, hm⟩ := moves_exec c s
  cases hu.symm.trans h
  exact hm

/-- Every step makes moves alone. -/
theorem moves_of_step {s t : State} (h : step s = .next t) : Moves s t := by
  unfold step at h
  split at h
  · next c rest hp => exact (Moves.of_view (t := s.withQueue rest) rfl).trans (moves_of_exec h)
  · unfold idleStep at h
    split at h
    · exact moves_of_exec h
    · cases h
      exact .of_view rfl

end Sys2Proof.Machine

open Sys2Proof Sys2Proof.Machine

/-- Settles O59: every step makes moves of the earbuds' view alone, and every move keeps the laws. -/
theorem stepsKeepEarbudLaws : Obligations.StepsKeepEarbudLaws := fun _ _ h => (moves_of_step h).keep_laws
end

section
/-! The requests of the roster, PAIR_START and EAR_JOIN (R24 to R28, R30, R35, R60). -/

namespace Sys2Proof.Machine

open Sys2Proof

/-! ### The lowest of some indices (R28, R60) -/

/-- A search of the indices from 0 on finds the lowest that will do. -/
theorem find?_finRange_of_lowest {n : Nat} {p : Fin n → Bool} {i : Fin n} (hi : p i = true)
    (hlow : ∀ j : Fin n, j < i → p j = false) : (List.finRange n).find? p = some i := by
  rw [List.find?_eq_some_iff_getElem]
  refine ⟨hi, i, by simp, by simp, fun j hj => ?_⟩
  rw [List.getElem_finRange, hlow _ (by simpa [Fin.lt_def] using hj)]
  rfl

/-- A search of the indices finds none when none will do. -/
theorem find?_finRange_of_none {n : Nat} {p : Fin n → Bool} (h : ∀ j : Fin n, p j = false) :
    (List.finRange n).find? p = none :=
  List.find?_eq_none.2 fun j _ => by rw [h j]; nofun

/-! ### PAIR_START (R28, R35) -/

/-- The lowest FREE entry is the one that a reservation takes (R28). -/
theorem lowestFreeEntry_of_lowest {roster : Vector RosterEntry 8} {i : EntryId} (hi : roster[i] = .free)
    (hlow : ∀ j : EntryId, j < i → roster[j] ≠ .free) : lowestFreeEntry roster = some i :=
  find?_finRange_of_lowest (beq_iff_eq.2 hi) fun j hj => beq_eq_false_iff_ne.2 (hlow j hj)

/-- With no FREE entry there is none to reserve (R28). -/
theorem lowestFreeEntry_of_none {roster : Vector RosterEntry 8} (h : ∀ j : EntryId, roster[j] ≠ .free) :
    lowestFreeEntry roster = none :=
  find?_finRange_of_none fun j => beq_eq_false_iff_ne.2 (h j)

/-- PAIR_START while pairing is refused (R35). -/
theorem pairStart_of_busy {s : State} (window : Byte) (h : s.pair.state ≠ .idle) : pairStart [window] s = refuse .busy s :=
  if_neg h

/-- PAIR_START with no FREE entry is refused (R28, R35). -/
theorem pairStart_of_full {s : State} (window : Byte) (h : s.pair.state = .idle) (hfull : lowestFreeEntry s.roster = none) :
    pairStart [window] s = refuse .full s := by
  simp only [pairStart, if_pos h, hfull]

/-- PAIR_START in IDLE reserves the entry found and listens (R28, R35). -/
theorem pairStart_of_free {s : State} {i : EntryId} (window : Byte) (h : s.pair.state = .idle)
    (hi : lowestFreeEntry s.roster = some i) :
    pairStart [window] s = answerClamped (clampNat 1 120 window.toNat != window.toNat)
      [BitVec.ofNat 8 i.val, BitVec.ofNat 8 (clampNat 1 120 window.toNat)] (startPairing i (clampNat 1 120 window.toNat) s) := by
  simp only [pairStart, if_pos h, hi]

/-! ### EAR_JOIN (R30, R60) -/

/-- The lowest FREE slot is the one that a join takes (R60). -/
theorem lowestFreeSlot_of_lowest {slots : Vector StreamSlot 4} {k : SlotId} (hk : slots[k].state = .free)
    (hlow : ∀ j : SlotId, j < k → slots[j].state ≠ .free) : lowestFreeSlot slots = some k :=
  find?_finRange_of_lowest (beq_iff_eq.2 hk) fun j hj => beq_eq_false_iff_ne.2 (hlow j hj)

/-- With no FREE slot a join finds none (R60). -/
theorem lowestFreeSlot_of_none {slots : Vector StreamSlot 4} (h : ∀ j : SlotId, slots[j].state ≠ .free) :
    lowestFreeSlot slots = none :=
  find?_finRange_of_none fun j => beq_eq_false_iff_ne.2 (h j)

/-- EAR_JOIN outside LIVE and HELD is refused (R60). -/
theorem earJoin_of_not_admitted {s : State} (index : Byte) (h : ¬(s.call.state = .live ∨ s.call.state = .held)) :
    earJoin [index] s = refuse .badState s :=
  if_neg fun ha => h ((admitsEarbuds_iff _).1 ha)

/-- EAR_JOIN in LIVE and HELD of a byte that is no index is refused (R60). -/
theorem earJoin_of_bad_index {s : State} {index : Byte} (h : s.call.state = .live ∨ s.call.state = .held)
    (hi : indexOfByte 8 index = none) : earJoin [index] s = refuse .badArg s := by
  simp only [earJoin, (admitsEarbuds_iff _).2 h, if_true, hi]

section
variable {s : State} {index : Byte} {i : EntryId} {held : Contents}

/-- EAR_JOIN of an entry without contents is refused (R60). -/
theorem earJoin_of_no_entry (h : s.call.state = .live ∨ s.call.state = .held) (hi : indexOfByte 8 index = some i)
    (he : s.roster[i] = .free ∨ s.roster[i] = .reserved) : earJoin [index] s = refuse .noEntry s := by
  rcases he with he | he <;> simp only [earJoin, (admitsEarbuds_iff _).2 h, if_true, hi, he]

/-- EAR_JOIN of an entry in the call is refused (R60). -/
theorem earJoin_of_inCall (h : s.call.state = .live ∨ s.call.state = .held) (hi : indexOfByte 8 index = some i)
    (he : s.roster[i] = .inCall held) : earJoin [index] s = refuse .busy s := by
  simp only [earJoin, (admitsEarbuds_iff _).2 h, if_true, hi, he]

/-- EAR_JOIN of a BONDED entry without the call's rate is refused (R60). -/
theorem earJoin_of_other_rate (h : s.call.state = .live ∨ s.call.state = .held) (hi : indexOfByte 8 index = some i)
    (he : s.roster[i] = .bonded held) (hr : held.declared.rates.holds s.call.rate = false) :
    earJoin [index] s = refuse .unsupported s := by
  simp only [earJoin, (admitsEarbuds_iff _).2 h, if_true, hi, he, hr, Bool.false_eq_true, if_false]

/-- EAR_JOIN of a BONDED entry with no FREE slot is refused (R60). -/
theorem earJoin_of_full (h : s.call.state = .live ∨ s.call.state = .held) (hi : indexOfByte 8 index = some i)
    (he : s.roster[i] = .bonded held) (hr : held.declared.rates.holds s.call.rate = true)
    (hk : lowestFreeSlot s.slots = none) : earJoin [index] s = refuse .full s := by
  simp only [earJoin, (admitsEarbuds_iff _).2 h, if_true, hi, he, hr, hk]

/-- EAR_JOIN of a BONDED entry that has the call's rate takes the slot found (R60). -/
theorem earJoin_of_slot {k : SlotId} (h : s.call.state = .live ∨ s.call.state = .held) (hi : indexOfByte 8 index = some i)
    (he : s.roster[i] = .bonded held) (hr : held.declared.rates.holds s.call.rate = true)
    (hk : lowestFreeSlot s.slots = some k) : earJoin [index] s = answerOk [BitVec.ofNat 8 k.val] (startJoin k i s) := by
  simp only [earJoin, (admitsEarbuds_iff _).2 h, if_true, hi, he, hr, hk]

end

/-- An accepted EAR_JOIN, whole (R30, R60). -/
theorem startJoin_of_bonded {s : State} {i : EntryId} {held : Contents} (k : SlotId) (hi : s.roster[i] = .bonded held) :
    startJoin k i s = { s with
      roster := s.roster.set i (.inCall held)
      slots := s.slots.set k { StreamSlot.reset with
        state := .joining, rosterIndex := some i, challenge := some (Config.freshChallenge s.draws) }
      draws := s.draws + 1 } := by
  rw [startJoin, hi]
  rfl

/-! ### The bytes of roster contents (R24, R26) -/

/-- The bytes of a number are as many as asked for. -/
theorem bytesOfNumber_length (n value : Nat) : (bytesOfNumber n value).length = n := by
  induction n generalizing value with
  | zero => rfl
  | succ k ih => rw [bytesOfNumber, List.length_append, ih]; rfl

/-- The bytes of a number stand for it, as far as they go. -/
theorem numberOfBytes_bytesOfNumber (n value : Nat) : numberOfBytes (bytesOfNumber n value) = value % 256 ^ n := by
  induction n generalizing value with
  | zero => rw [Nat.pow_zero, Nat.mod_one]; rfl
  | succ k ih =>
    have hlast : numberOfBytes (bytesOfNumber (k + 1) value)
        = 256 * numberOfBytes (bytesOfNumber k (value / 256)) + value % 256 := by
      rw [numberOfBytes, bytesOfNumber, List.foldl_append, List.foldl_cons, List.foldl_nil, BitVec.toNat_ofNat]
      rfl
    rw [hlast, ih, Nat.pow_succ', Nat.mod_mul]
    omega

/-- An address reads back from its six bytes. -/
theorem address_of_bytes (a : Address) : BitVec.ofNat 48 (numberOfBytes (bytesOfNumber 6 a.toNat)) = a := by
  rw [numberOfBytes_bytesOfNumber, Nat.mod_eq_of_lt (by exact a.isLt), BitVec.ofNat_toNat, BitVec.setWidth_eq]

/-- A key reads back from its sixteen bytes. -/
theorem key_of_bytes (key : Key) : BitVec.ofNat 128 (numberOfBytes (bytesOfNumber 16 key.toNat)) = key := by
  rw [numberOfBytes_bytesOfNumber, Nat.mod_eq_of_lt (by exact key.isLt), BitVec.ofNat_toNat, BitVec.setWidth_eq]

/-- The byte of a switch stands for it. -/
theorem switchOfByte_switchByte (on : Bool) : switchOfByte (switchByte on) = some on := by cases on <;> rfl

/-- The byte of a rate set stands for it. -/
theorem rateSetOfByte_code (r : RateSet) : rateSetOfByte r.code = some r := by cases r <;> rfl

/-- The byte of a clock class stands for it. -/
theorem clockClassOfByte_code (cls : ClockClass) : clockClassOfByte cls.code = some cls := by cases cls <;> rfl

/-- A place's role and set id make it. -/
theorem placeOf_roleCode (p : Place) : placeOf p.roleCode p.setId = some p := by cases p <;> rfl

/-- What is declared, as bytes, passes the checks (R22). -/
theorem checkDeclared_codes (d : Declared) :
    checkDeclared d.address ⟨d.place.setId, d.place.roleCode, switchByte d.microphone, d.rates.code, d.clockClass.code⟩
      = some d := by
  simp only [checkDeclared, placeOf_roleCode, switchOfByte_switchByte, rateSetOfByte_code, clockClassOfByte_code]

/-- The set id of a place reads back from its flag and its byte (R24). -/
theorem setId_of_bytes (p : Place) : (if p.setId.isSome then some (p.setId.getD 0) else none) = p.setId := by
  cases p <;> rfl

/-- The contents of a ROSTER_PUT body, by the places of its fields (R24). -/
theorem contentsOfBody_layout (index : Byte) {present setId role mic rates cls : Byte} {address key : List Byte} {p : Bool}
    {d : Declared} (ha : address.length = 6) (hk : key.length = 16) (hp : switchOfByte present = some p)
    (hd : checkDeclared (BitVec.ofNat 48 (numberOfBytes address)) ⟨if p then some setId else none, role, mic, rates, cls⟩
      = some d) :
    contentsOfBody (index :: (address ++ [present, setId, role, mic, rates, cls] ++ key))
      = some ⟨d, BitVec.ofNat 128 (numberOfBytes key)⟩ := by
  match address, ha with
  | [a0, a1, a2, a3, a4, a5], _ =>
    have htake : key.take 16 = key := List.take_of_length_le (Nat.le_of_eq hk)
    simp only [contentsOfBody, byteAt, List.cons_append, List.nil_append, List.getD_cons_succ, List.getD_cons_zero,
      List.drop_succ_cons, List.drop_zero, List.take_succ_cons, List.take_zero, htake, hp, hd]

/-- Contents read back from their bytes (R24, R26). -/
theorem contentsOfBody_bytes (index : Byte) (c : Contents) : contentsOfBody (index :: c.bytes) = some c := by
  refine (contentsOfBody_layout index (bytesOfNumber_length 6 _) (bytesOfNumber_length 16 _) (switchOfByte_switchByte _)
    (d := c.declared) ?_).trans ?_
  · rw [address_of_bytes, setId_of_bytes, checkDeclared_codes]
  · rw [key_of_bytes]

/-- The bytes of contents are 28 (R26). -/
theorem Contents.bytes_length (c : Contents) : c.bytes.length = 28 := by
  simp only [Contents.bytes, List.length_append, bytesOfNumber_length, List.length_cons, List.length_nil]

/-! ### ROSTER_PUT, ROSTER_GET and ROSTER_DROP (R24 to R27) -/

/-- An entry may be written when it is neither RESERVED nor IN_CALL (R24, check 3). -/
theorem writable_iff (e : RosterEntry) : e.writable = true ↔ e ≠ .reserved ∧ e.isInCall = false := by
  cases e <;> simp [RosterEntry.writable, RosterEntry.isInCall]

/-- Contents clash with no other entry exactly when neither their address nor their place is held elsewhere (R24, checks 5 and
6). -/
theorem no_clash_iff (i : EntryId) (c : Contents) (roster : Vector RosterEntry 8) :
    (∀ j : EntryId, j ≠ i → entriesDiffer (.bonded c) roster[j] = true)
      ↔ addressHeldElsewhere i c.declared.address roster = false ∧ placeHeldElsewhere i c.declared.place roster = false := by
  simp only [addressHeldElsewhere_eq_false, placeHeldElsewhere_eq_false, entriesDiffer_bonded, Bool.and_eq_true,
    Bool.not_eq_true', forall_and]

/-- The first byte of a body. -/
theorem byteAt_zero (index : Byte) (rest : List Byte) : byteAt (index :: rest) 0 = index := rfl

section
variable {index : Byte} {rest : List Byte} {i : EntryId} {c : Contents} {s : State}

/-- ROSTER_PUT of a byte that is no index is refused (R24, check 2). -/
theorem rosterPut_of_bad_index (hl : rest.length = 28) (hi : indexOfByte 8 index = none) :
    rosterPut (index :: rest) s = refuse .badArg s := by
  simp only [rosterPut, List.length_cons, hl, if_true, byteAt_zero, hi]

/-- ROSTER_PUT into an entry that may not be written is refused (R24, check 3). -/
theorem rosterPut_of_not_writable (hl : rest.length = 28) (hi : indexOfByte 8 index = some i)
    (hw : s.roster[i].writable = false) : rosterPut (index :: rest) s = refuse .badState s := by
  simp only [rosterPut, List.length_cons, hl, if_true, byteAt_zero, hi, hw, Bool.false_eq_true, if_false]

/-- ROSTER_PUT of malformed contents is refused (R24, check 4). -/
theorem rosterPut_of_malformed (hl : rest.length = 28) (hi : indexOfByte 8 index = some i) (hw : s.roster[i].writable = true)
    (hc : contentsOfBody (index :: rest) = none) : rosterPut (index :: rest) s = refuse .badArg s := by
  simp only [rosterPut, List.length_cons, hl, if_true, byteAt_zero, hi, hw, hc]

/-- ROSTER_PUT of contents that clash with another entry is refused (R24, checks 5 and 6). -/
theorem rosterPut_of_clash (hl : rest.length = 28) (hi : indexOfByte 8 index = some i) (hw : s.roster[i].writable = true)
    (hc : contentsOfBody (index :: rest) = some c)
    (hclash : ¬∀ j : EntryId, j ≠ i → entriesDiffer (.bonded c) s.roster[j] = true) :
    rosterPut (index :: rest) s = refuse .conflict s := by
  rw [no_clash_iff, not_and_or, Bool.not_eq_false, Bool.not_eq_false] at hclash
  simp only [rosterPut, List.length_cons, hl, if_true, byteAt_zero, hi, hw, hc]
  split
  · rfl
  · next ha => exact if_pos (hclash.resolve_left ha)

/-- ROSTER_PUT of contents that clash with no other entry writes them (R24, R25). -/
theorem rosterPut_of_no_clash (hl : rest.length = 28) (hi : indexOfByte 8 index = some i) (hw : s.roster[i].writable = true)
    (hc : contentsOfBody (index :: rest) = some c)
    (hn : ∀ j : EntryId, j ≠ i → entriesDiffer (.bonded c) s.roster[j] = true) :
    rosterPut (index :: rest) s = answerOk [] (s.setEntry i (.bonded c)) := by
  obtain ⟨ha, hp⟩ := (no_clash_iff i c s.roster).1 hn
  simp only [rosterPut, List.length_cons, hl, if_true, byteAt_zero, hi, hw, hc, ha, hp, Bool.false_eq_true, if_false]

end

/-- ROSTER_GET of a byte that is no index is refused (R26). -/
theorem rosterGet_of_bad_index {index : Byte} (s : State) (hi : indexOfByte 8 index = none) :
    rosterGet [index] s = refuse .badArg s := by
  simp only [rosterGet, hi]

/-- ROSTER_GET gives the bytes of the entry (R26). -/
theorem rosterGet_of_index {index : Byte} {i : EntryId} (s : State) (hi : indexOfByte 8 index = some i) :
    rosterGet [index] s = answerOk (entryBytes s.roster[i]) s := by
  simp only [rosterGet, hi]

/-- ROSTER_DROP of a byte that is no index is refused (R27). -/
theorem rosterDrop_of_bad_index {index : Byte} (s : State) (hi : indexOfByte 8 index = none) :
    rosterDrop [index] s = refuse .badArg s := by
  simp only [rosterDrop, hi]

/-- ROSTER_DROP of an entry goes by its state (R27). -/
theorem rosterDrop_of_index {index : Byte} {i : EntryId} (s : State) (hi : indexOfByte 8 index = some i) :
    (s.roster[i] = .free → rosterDrop [index] s = refuse .noEntry s)
      ∧ (s.roster[i] = .reserved ∨ s.roster[i].isInCall = true → rosterDrop [index] s = refuse .badState s)
      ∧ (∀ held : Contents, s.roster[i] = .bonded held → rosterDrop [index] s = answerOk [] (s.setEntry i .free)) := by
  refine ⟨fun he => ?_, fun he => ?_, fun held he => ?_⟩
  · simp only [rosterDrop, hi, he]
  · cases hs : s.roster[i] <;> simp only [rosterDrop, hi, hs]
    all_goals simp [hs, RosterEntry.isInCall] at he
  · simp only [rosterDrop, hi, he]

end Sys2Proof.Machine

open Sys2Proof Sys2Proof.Machine

/-- Settles O13: ROSTER_PUT by its checks in their order, ROSTER_GET and ROSTER_DROP by the state of the entry. -/
theorem rosterRequestsFollowRules : Obligations.RosterRequestsFollowRules := by
  have hbyte : ∀ i : EntryId, indexOfByte 8 (BitVec.ofNat 8 i) = some i := fun i => indexOfByte_ofNat 8 i (by decide)
  refine ⟨fun tag i contents s h hr hc hn => ?_, fun tag index rest s h hl => ⟨fun hi => ?_, fun i hi => ⟨fun hw => ?_,
    fun hr hc => ⟨fun hm => ?_, fun contents hm hclash => ?_⟩⟩⟩, fun tag i s => ⟨fun h => ?_, fun h => ?_, fun index hi =>
    ⟨fun h => ?_, fun h => ?_⟩⟩⟩
  · exact congrArg _ (takeRequest_answered (t := s.setEntry i (.bonded contents)) h (rosterPut_of_no_clash (s := dropRequest s)
      contents.bytes_length (hbyte i) ((writable_iff _).2 ⟨hr, hc⟩) (contentsOfBody_bytes _ contents) hn))
  · exact congrArg _ (takeRequest_refused h (rosterPut_of_bad_index hl (indexOfByte_of_le hi)))
  · subst hi
    refine congrArg _ (takeRequest_refused h (rosterPut_of_not_writable hl (hbyte i) (Bool.eq_false_iff.2 fun hwr => ?_)))
    obtain ⟨hr, hc⟩ := (writable_iff _).1 hwr
    exact hw.elim hr (Bool.eq_false_iff.1 hc)
  · subst hi
    exact congrArg _ (takeRequest_refused h (rosterPut_of_malformed hl (hbyte i) ((writable_iff _).2 ⟨hr, hc⟩) hm))
  · subst hi
    refine congrArg _ (takeRequest_refused h (rosterPut_of_clash hl (hbyte i) ((writable_iff _).2 ⟨hr, hc⟩) hm fun hn => ?_))
    obtain ⟨j, hj, hd⟩ := hclash
    exact Bool.eq_false_iff.1 hd (hn j hj)
  · refine congrArg _ ((takeRequest_answered h (rosterGet_of_index (dropRequest s) (hbyte i))).trans ?_)
    rw [dropRequest_roster]
    cases s.roster[i] <;> rfl
  · obtain ⟨hfree, hbusy, hbonded⟩ := rosterDrop_of_index (dropRequest s) (hbyte i)
    rw [dropRequest_roster] at hfree hbusy hbonded
    cases he : s.roster[i] with
    | free => exact congrArg _ (takeRequest_refused h (hfree he))
    | reserved => exact congrArg _ (takeRequest_refused h (hbusy (.inl he)))
    | inCall held => exact congrArg _ (takeRequest_refused h (hbusy (.inr (by rw [he]; rfl))))
    | bonded held => exact congrArg _ (takeRequest_answered (t := s.setEntry i .free) h (hbonded held he))
  · exact congrArg _ (takeRequest_refused h (rosterGet_of_bad_index _ (indexOfByte_of_le hi)))
  · exact congrArg _ (takeRequest_refused h (rosterDrop_of_bad_index _ (indexOfByte_of_le hi)))

/-- Settles O14: by the state of the context and by whether an entry is FREE. -/
theorem pairStartReservesAndListens : Obligations.PairStartReservesAndListens := by
  intro tag window s h
  refine ⟨fun hbusy => ?_, fun hidle hfull => ?_, fun hidle i hi hlow => ⟨clampNat 1 120 window.toNat, rfl, ?_⟩⟩
  · exact congrArg _ (takeRequest_refused h (pairStart_of_busy window hbusy))
  · exact congrArg _ (takeRequest_refused h (pairStart_of_full window hidle (lowestFreeEntry_of_none hfull)))
  · refine congrArg _ ((takeRequest_of_takeable h).trans ?_)
    rw [pairStart_of_free (s := dropRequest s) window hidle (lowestFreeEntry_of_lowest hi hlow), answerClamped_body,
      answerClamped_state]
    simp only [bne_iff_ne, ne_eq, ite_not]
    rfl

/-- Settles O22: by the checks of EAR_JOIN in their order. -/
theorem earJoinTakesLowestSlot : Obligations.EarJoinTakesLowestSlot := by
  intro tag index s h
  refine ⟨fun hl hh => ?_, fun hcall => ⟨fun hi => ?_, fun i hi => ?_⟩⟩
  · exact congrArg _ (takeRequest_refused h (earJoin_of_not_admitted index (not_or.2 ⟨hl, hh⟩)))
  · exact congrArg _ (takeRequest_refused h (earJoin_of_bad_index hcall (indexOfByte_of_le hi)))
  · have hindex : indexOfByte 8 index = some i := hi ▸ indexOfByte_ofNat 8 i (by decide)
    refine ⟨fun he => ?_, fun held he => ?_, fun held he => ⟨fun hrate => ?_, fun hrate => ⟨fun hfull => ?_,
      fun k hk hlow => ?_⟩⟩⟩
    · exact congrArg _ (takeRequest_refused h (earJoin_of_no_entry hcall hindex he))
    · exact congrArg _ (takeRequest_refused h (earJoin_of_inCall hcall hindex he))
    · exact congrArg _ (takeRequest_refused h (earJoin_of_other_rate hcall hindex he hrate))
    · exact congrArg _ (takeRequest_refused h (earJoin_of_full hcall hindex he hrate (lowestFreeSlot_of_none hfull)))
    · have hjoined := earJoin_of_slot (s := dropRequest s) hcall hindex he hrate (lowestFreeSlot_of_lowest hk hlow)
      rw [startJoin_of_bonded (s := dropRequest s) k he] at hjoined
      exact congrArg _ (takeRequest_answered h hjoined)
end

section
/-! BOUND (R29, R46). -/

namespace Sys2Proof.Machine

open Sys2Proof

/-! ### The roster's answer to a bind, by the entries (R29) -/

/-- An entry holds a place exactly when its contents do, and the place is not MONO (R21, R22). -/
theorem holdsPlace_iff (p : Place) (e : RosterEntry) :
    holdsPlace p e = true ↔ ∃ c : Contents, e.contents = some c ∧ c.declared.place = p ∧ p ≠ .mono := by
  simp only [holdsPlace, Bool.and_eq_true, bne_iff_ne, Option.any_eq_true, beq_iff_eq]
  grind

/-- A place is held elsewhere exactly when another entry's contents hold it. -/
theorem placeHeldElsewhere_iff (target : EntryId) (p : Place) (roster : Vector RosterEntry 8) :
    placeHeldElsewhere target p roster = true ↔ ∃ (j : EntryId) (other : Contents),
      j ≠ target ∧ roster[j].contents = some other ∧ other.declared.place = p ∧ p ≠ .mono := by
  rw [← not_iff_not, Bool.not_eq_true, placeHeldElsewhere_eq_false]
  simp only [← Bool.not_eq_true, holdsPlace_iff]
  grind

/-- Under the roster's law the entry found at an address is the one that holds it (R21). -/
theorem entryAtAddress_of_holds {a : Address} {i : EntryId} {s : State} (hlaw : rosterLaw s)
    (hi : holdsAddress a s.roster[i] = true) : entryAtAddress a s.roster = some i := by
  refine find?_finRange_of_lowest hi fun j hj => ?_
  exact not_holdsAddress_of_differ (hlaw i j (Fin.ne_of_gt hj)) hi

/-- Where no entry's contents hold an address, none is found at it. -/
theorem entryAtAddress_of_none {a : Address} {roster : Vector RosterEntry 8}
    (h : ∀ (i : EntryId) (held : Contents), roster[i].contents = some held → held.declared.address ≠ a) :
    entryAtAddress a roster = none := by
  refine find?_finRange_of_none fun i => Bool.eq_false_iff.2 fun hi => ?_
  obtain ⟨c, hc, ha⟩ := (holdsAddress_iff a _).1 hi
  exact h i c hc ha

/-- A bind of an address in a call is answered BUSY (R29). -/
theorem judgeBind_of_inCall {reserved i : EntryId} {d : Declared} {roster : Vector RosterEntry 8}
    (hi : entryAtAddress d.address roster = some i) (hc : roster[i].isInCall = true) :
    judgeBind reserved d roster = .busy := by
  simp only [judgeBind, hi, hc, if_true]

/-- A bind of a BONDED address is a re-pairing, where its place is held by no other entry (R29). -/
theorem judgeBind_of_held {reserved i : EntryId} {d : Declared} {roster : Vector RosterEntry 8}
    (hi : entryAtAddress d.address roster = some i) (hc : roster[i].isInCall = false) :
    judgeBind reserved d roster = if placeHeldElsewhere i d.place roster then .conflict else .rebonded i := by
  simp only [judgeBind, hi, hc, Bool.false_eq_true, if_false]

/-- A bind of an address that no entry holds is a first pairing, where its place is held by no other entry (R29). -/
theorem judgeBind_of_new {reserved : EntryId} {d : Declared} {roster : Vector RosterEntry 8}
    (h : entryAtAddress d.address roster = none) :
    judgeBind reserved d roster = if placeHeldElsewhere reserved d.place roster then .conflict else .bonded reserved := by
  simp only [judgeBind, h]

/-! ### What BOUND makes of the answer (R46) -/

/-- A BOUND taken in BINDING hands the bind to the roster (R46). -/
theorem bound_of_taken {h : AirHeader} {s : State} {reserved : EntryId} {x : Candidate} {key : Key}
    (ht : partnerTurn .binding h s) (hs : s.pair.state = .binding) (hr : s.pair.reservedEntry = some reserved)
    (hx : s.pair.partner = some x) (hk : s.pair.linkKey = some key) :
    bound h s = settleBind reserved ⟨x.declared, key⟩ s := by
  rw [bound, if_pos ((takenFromPartner_iff .binding h s).2 ⟨ht, hs⟩)]
  simp only [hr, hx, hk]

/-- A bind in a call makes an ABANDON owed (R46). -/
theorem settleBind_of_busy {reserved : EntryId} {c : Contents} {s : State}
    (h : judgeBind reserved c.declared s.roster = .busy) :
    settleBind reserved c s = { s with pair := { s.pair with endPending := some .inCall } } := by
  simp only [settleBind, h]
  rfl

/-- A bind that clashes makes an ABANDON owed (R46). -/
theorem settleBind_of_conflict {reserved : EntryId} {c : Contents} {s : State}
    (h : judgeBind reserved c.declared s.roster = .conflict) :
    settleBind reserved c s = { s with pair := { s.pair with endPending := some .conflict } } := by
  simp only [settleBind, h]
  rfl

/-- The end of a handshake with DONE, whole (R46). -/
theorem finishPairing_eq (i : EntryId) (s : State) :
    finishPairing i s = raise Source.pairEvent 3 (BitVec.ofNat 32 i.val)
      { s with
        pair := { PairContext.reset with window := s.pair.window }
        air := { s.air with use := useAfterHandshake s.air.use } } := by
  rw [finishPairing, endHandshake, afterHandshake_eq]
  rfl

/-- A re-pairing rewrites the entry of the address and frees the reserved one (R29, R46). -/
theorem settleBind_of_rebonded {reserved i : EntryId} {c : Contents} {s : State}
    (h : judgeBind reserved c.declared s.roster = .rebonded i) :
    settleBind reserved c s = raise Source.pairEvent 3 (BitVec.ofNat 32 i.val)
      { s with
        roster := (s.roster.set i (.bonded c)).set reserved .free
        pair := { PairContext.reset with window := s.pair.window }
        air := { s.air with use := useAfterHandshake s.air.use } } := by
  simp only [settleBind, h, finishPairing_eq]
  rfl

/-- A first pairing writes the reserved entry (R29, R46). -/
theorem settleBind_of_bonded {reserved i : EntryId} {c : Contents} {s : State}
    (h : judgeBind reserved c.declared s.roster = .bonded i) :
    settleBind reserved c s = raise Source.pairEvent 3 (BitVec.ofNat 32 i.val)
      { s with
        roster := s.roster.set i (.bonded c)
        pair := { PairContext.reset with window := s.pair.window }
        air := { s.air with use := useAfterHandshake s.air.use } } := by
  simp only [settleBind, h, finishPairing_eq]
  rfl

end Sys2Proof.Machine

open Sys2Proof Sys2Proof.Machine

/-- Settles O19: by whether a BOUND is taken, then by the roster's answer to the bind, which the roster's law makes a matter of the
one entry that holds the address. -/
theorem boundWritesBond : Obligations.BoundWritesBond := by
  refine ⟨fun h s reserved x key ht hs hr hentry hx hk hlaw => ?_, fun h s hn => ?_⟩
  · have hbound := bound_of_taken ht hs hr hx hk
    have hat : ∀ (i : EntryId) (held : Contents), s.roster[i].contents = some held →
        held.declared.address = x.declared.address → entryAtAddress x.declared.address s.roster = some i :=
      fun i held hi ha => entryAtAddress_of_holds hlaw ((holdsAddress_iff _ _).2 ⟨held, hi, ha⟩)
    refine ⟨fun ⟨i, held, hi, ha⟩ => ?_, fun i held hi ha => ?_, fun hnew => ?_⟩
    · refine congrArg _ (hbound.trans (settleBind_of_busy (judgeBind_of_inCall (hat i held ?_ ha) ?_))) <;> rw [hi] <;> rfl
    · have hjudged := judgeBind_of_held (reserved := reserved) (hat i held (by rw [hi]; rfl) ha) (by rw [hi]; rfl)
      refine ⟨fun hfree => ?_, fun ⟨j, other, hj, hplace⟩ => ?_⟩
      · refine congrArg _ (hbound.trans (settleBind_of_rebonded (hjudged.trans (if_neg fun hp => ?_))))
        obtain ⟨j, other, hj, hc, hplace, hmono⟩ := (placeHeldElsewhere_iff _ _ _).1 hp
        exact (hfree j other hj hc).elim (· hplace) hmono
      · exact congrArg _ (hbound.trans (settleBind_of_conflict
          (hjudged.trans (if_pos ((placeHeldElsewhere_iff _ _ _).2 ⟨j, other, hj, hplace⟩)))))
    · have hjudged := judgeBind_of_new (reserved := reserved) (entryAtAddress_of_none hnew)
      refine ⟨fun hfree => ?_, fun ⟨j, other, hc, hplace⟩ => ?_⟩
      · refine congrArg _ (hbound.trans (settleBind_of_bonded (hjudged.trans (if_neg fun hp => ?_))))
        obtain ⟨j, other, hj, hc, hplace, hmono⟩ := (placeHeldElsewhere_iff _ _ _).1 hp
        exact (hfree j other hc).elim (· hplace) hmono
      · have hj : j ≠ reserved := by
          rintro rfl
          rw [hentry] at hc
          cases hc
        exact congrArg _ (hbound.trans (settleBind_of_conflict
          (hjudged.trans (if_pos ((placeHeldElsewhere_iff _ _ _).2 ⟨j, other, hj, hc, hplace⟩)))))
  · exact congrArg _ (if_neg fun ht => hn ((takenFromPartner_iff .binding h s).1 ht))
end

section
/-! PAIR_PICK, PAIR_CONFIRM and PAIR_CANCEL (R40, R44, R45, R49). -/

namespace Sys2Proof.Machine

open Sys2Proof

/-! ### PAIR_PICK (R40) -/

/-- A byte within the range is an index. -/
theorem indexOfByte_of_lt {n : Nat} {b : Byte} (h : b.toNat < n) : indexOfByte n b = some ⟨b.toNat, h⟩ := dif_pos h

/-- An entry is IN_CALL exactly when it is so with some contents. -/
theorem isInCall_iff (e : RosterEntry) : e.isInCall = true ↔ ∃ held : Contents, e = .inCall held := by
  cases e <;> simp [RosterEntry.isInCall]

/-- An address is in a call exactly when an IN_CALL entry holds it (R40, check 5). -/
theorem addressInCall_iff (a : Address) (roster : Vector RosterEntry 8) :
    addressInCall a roster = true
      ↔ ∃ (i : EntryId) (held : Contents), roster[i] = .inCall held ∧ held.declared.address = a := by
  simp only [addressInCall, List.any_eq_true, List.mem_finRange, true_and, Bool.and_eq_true, isInCall_iff, holdsAddress_iff]
  refine exists_congr fun i => ⟨fun ⟨⟨held, hi⟩, c, hc, ha⟩ => ⟨held, hi, ?_⟩,
    fun ⟨held, hi, ha⟩ => ⟨⟨held, hi⟩, held, ?_, ha⟩⟩
  · rw [hi] at hc
    cases hc
    exact ha
  · rw [hi]
    rfl

/-- A place is held by an entry with another address exactly when some contents say so (R40, check 6). -/
theorem placeHeldByOther_iff (d : Declared) (roster : Vector RosterEntry 8) :
    placeHeldByOther d roster = true ↔ ∃ (i : EntryId) (held : Contents), roster[i].contents = some held
      ∧ held.declared.address ≠ d.address ∧ held.declared.place = d.place ∧ d.place ≠ .mono := by
  simp only [placeHeldByOther, List.any_eq_true, List.mem_finRange, true_and, Bool.and_eq_true, Bool.not_eq_true',
    ← Bool.not_eq_true, holdsAddress_iff, holdsPlace_iff]
  refine exists_congr fun i => ⟨fun ⟨⟨held, hc, hp, hm⟩, hn⟩ => ⟨held, hc, fun ha => hn ⟨held, hc, ha⟩, hp, hm⟩,
    fun ⟨held, hc, ha, hp, hm⟩ => ⟨⟨held, hc, hp, hm⟩, fun ⟨c, hc', ha'⟩ => ha ?_⟩⟩
  cases hc.symm.trans hc'
  exact ha'

/-- PAIR_PICK outside LISTEN is refused (R40, check 2). -/
theorem pairPick_of_not_listen {s : State} (index : Byte) (h : s.pair.state ≠ .listen) :
    pairPick [index] s = refuse .badState s := if_neg h

/-- PAIR_PICK of a byte that is no index is refused (R40, check 3). -/
theorem pairPick_of_bad_index {s : State} {index : Byte} (h : s.pair.state = .listen) (hi : indexOfByte 4 index = none) :
    pairPick [index] s = refuse .badArg s := by
  simp only [pairPick, if_pos h, hi]

section
variable {s : State} {index : Byte} {i : Fin 4} {x : Candidate}

/-- PAIR_PICK of an index that is not listed is refused (R40, check 4). -/
theorem pairPick_of_not_listed (h : s.pair.state = .listen) (hi : indexOfByte 4 index = some i)
    (hx : s.pair.candidates[i.val]? = none) : pairPick [index] s = refuse .noEntry s := by
  simp only [pairPick, if_pos h, hi, hx]

/-- PAIR_PICK of a candidate goes by the roster: an address in a call, a place held by another, or neither (R40, checks 5 and
6). -/
theorem pairPick_of_listed (h : s.pair.state = .listen) (hi : indexOfByte 4 index = some i)
    (hx : s.pair.candidates[i.val]? = some x) :
    pairPick [index] s = if addressInCall x.declared.address s.roster then refuse .busy s
      else if placeHeldByOther x.declared s.roster then refuse .conflict s else answerOk [] (startOffer x s) := by
  simp only [pairPick, if_pos h, hi, hx]
  rfl

end

/-! ### PAIR_CONFIRM (R44, R45) -/

/-- PAIR_CONFIRM outside COMPARE, or with an end pending, is refused (R44). -/
theorem pairConfirm_of_not_comparing {s : State} (value : Byte) (h : ¬(s.pair.state = .compare ∧ s.pair.endPending = none)) :
    pairConfirm [value] s = refuse .badState s := if_neg h

/-- PAIR_CONFIRM in COMPARE goes by its value: yes is remembered, no makes an ABANDON owed, another is refused (R44, R45). -/
theorem pairConfirm_of_comparing {s : State} (value : Byte) (h : s.pair.state = .compare ∧ s.pair.endPending = none) :
    pairConfirm [value] s = match switchOfByte value with
      | some true => answerOk [] (s.setPair { s.pair with hostConfirmed := true }.settleConfirmed)
      | some false => answerOk [] (owe .rejectedByHost s)
      | none => refuse .badArg s := if_pos h

/-- A byte above 1 is no switch. -/
theorem switchOfByte_of_le {b : Byte} (h : 2 ≤ b.toNat) : switchOfByte b = none := by
  unfold switchOfByte; split <;> [omega; omega; rfl]

/-- The host's yes in COMPARE leads on when the earbud's has come (R44). -/
theorem settleConfirmed_of_host {p : PairContext} (h : p.state = .compare) :
    { p with hostConfirmed := true }.settleConfirmed
      = if p.earConfirmed then { p with hostConfirmed := true, state := .binding, bindCount := 0 }
        else { p with hostConfirmed := true } := by
  simp only [PairContext.settleConfirmed, h, true_and]

/-- The earbud's yes in COMPARE leads on when the host's has come (R44). -/
theorem settleConfirmed_of_ear {p : PairContext} (h : p.state = .compare) :
    { p with earConfirmed := true }.settleConfirmed
      = if p.hostConfirmed then { p with earConfirmed := true, state := .binding, bindCount := 0 }
        else { p with earConfirmed := true } := by
  simp only [PairContext.settleConfirmed, h, true_and, and_true]

/-- Outside COMPARE a confirmation is kept, and leads nowhere yet (R44). -/
theorem settleConfirmed_of_not_compare {p : PairContext} (h : p.state ≠ .compare) : p.settleConfirmed = p :=
  if_neg fun hc => h hc.1

/-! ### PAIR_CANCEL (R47, R49) -/

/-- PAIR_CANCEL in IDLE is refused (R49). -/
theorem pairCancel_of_idle {s : State} (h : s.pair.state = .idle) : pairCancel [] s = refuse .badState s := if_pos h

/-- PAIR_CANCEL while pairing is answered OK (R49). -/
theorem pairCancel_of_pairing {s : State} (h : s.pair.state ≠ .idle) : pairCancel [] s = answerOk [] (cancelPairing s) :=
  if_neg h

/-- A cancel with an end pending has no effect (R49). -/
theorem cancelPairing_of_pending {s : State} (h : s.pair.endPending ≠ none) : cancelPairing s = s := if_neg h

/-- A cancel in LISTEN fails the pairing at once (R49). -/
theorem cancelPairing_of_listen {s : State} (h : s.pair.endPending = none) (hs : s.pair.state = .listen) :
    cancelPairing s = failPairing .cancelled s := (if_pos h).trans (if_pos hs)

/-- A cancel of a handshake with a partner makes an ABANDON owed (R48, R49). -/
theorem cancelPairing_of_partner {s : State} (h : s.pair.endPending = none) (hs : s.pair.state ≠ .listen) :
    cancelPairing s = owe .cancelled s := (if_pos h).trans (if_neg hs)

/-- A pairing fails beside the request queue. -/
theorem failPairing_dropRequest (reason : FailReason) (s : State) :
    failPairing reason (dropRequest s) = dropRequest (failPairing reason s) := by
  rw [show failPairing reason s = _ from failPairing_spec reason s]
  exact failPairing_spec reason (dropRequest s)

end Sys2Proof.Machine

open Sys2Proof Sys2Proof.Machine

/-- Settles O15: by the checks of PAIR_PICK in their order. -/
theorem pairPickOffersCandidate : Obligations.PairPickOffersCandidate := by
  intro tag index s h
  refine ⟨fun hs => ?_, fun hs => ⟨fun hi => ?_, fun hi => ⟨fun hx => ?_, fun x hx => ?_⟩⟩⟩
  · exact congrArg _ (takeRequest_refused h (pairPick_of_not_listen index hs))
  · exact congrArg _ (takeRequest_refused h (pairPick_of_bad_index hs (indexOfByte_of_le hi)))
  · exact congrArg _ (takeRequest_refused h (pairPick_of_not_listed (s := dropRequest s) hs (indexOfByte_of_lt hi) hx))
  · have hpick := pairPick_of_listed (s := dropRequest s) hs (indexOfByte_of_lt hi) hx
    refine ⟨fun hbusy => ?_, fun hbusy => ⟨fun hplace => ?_, fun hplace => ?_⟩⟩
    · exact congrArg _ (takeRequest_refused h (hpick.trans (if_pos ((addressInCall_iff _ _).2 hbusy))))
    all_goals
      have hfree : ¬addressInCall x.declared.address s.roster = true := fun hc => by
        obtain ⟨i, held, hi, ha⟩ := (addressInCall_iff _ _).1 hc
        exact hbusy i held hi ha
      replace hpick := hpick.trans (if_neg hfree)
    · exact congrArg _ (takeRequest_refused h (hpick.trans (if_pos ((placeHeldByOther_iff _ _).2 hplace))))
    · refine congrArg _ (takeRequest_answered h (hpick.trans (if_neg fun hc => ?_)))
      obtain ⟨i, held, hc, ha, hp, hm⟩ := (placeHeldByOther_iff _ _).1 hc
      exact (hplace i held hc).elim ha fun h => h.elim (· hp) hm

/-- Settles O16: PAIR_CONFIRM by its value, PAIR_CANCEL by the state of the context. -/
theorem confirmAndCancelDecide : Obligations.ConfirmAndCancelDecide := by
  refine ⟨fun tag value s h => ⟨fun hs => ?_, fun hs hp => ⟨fun hv => ?_, fun hv => ?_, fun hv => ?_⟩⟩,
    fun tag s h => ⟨fun hs => ?_, fun hs hp => ?_, fun hs hl hp => ?_, fun hs hp => ?_⟩⟩
  · exact congrArg _ (takeRequest_refused h (pairConfirm_of_not_comparing value hs))
  · subst hv
    have hyes := pairConfirm_of_comparing (s := dropRequest s) 1 ⟨hs, hp⟩
    refine congrArg _ (takeRequest_answered h (hyes.trans (congrArg (answerOk []) ?_)))
    exact congrArg (dropRequest s).setPair (settleConfirmed_of_host hs)
  · subst hv
    exact congrArg _ (takeRequest_answered h (pairConfirm_of_comparing (s := dropRequest s) 0 ⟨hs, hp⟩))
  · have hbad := pairConfirm_of_comparing (s := dropRequest s) value ⟨hs, hp⟩
    rw [switchOfByte_of_le hv] at hbad
    exact congrArg _ (takeRequest_refused h hbad)
  · exact congrArg _ (takeRequest_refused h (pairCancel_of_idle hs))
  · exact congrArg _ (takeRequest_answered h ((pairCancel_of_pairing (s := dropRequest s) hs).trans
      (congrArg (answerOk []) (cancelPairing_of_pending hp))))
  · exact congrArg _ (takeRequest_answered (t := owe .cancelled s) h ((pairCancel_of_pairing (s := dropRequest s) hs).trans
      (congrArg (answerOk []) (cancelPairing_of_partner (s := dropRequest s) hp hl))))
  · refine ⟨failPairing .cancelled s, congrArg _ (takeRequest_answered h ?_), failPairing_spec .cancelled s⟩
    have hpairing : (dropRequest s).pair.state ≠ .idle := fun hi => nomatch hs.symm.trans hi
    refine (pairCancel_of_pairing hpairing).trans (congrArg (answerOk []) ?_)
    exact (cancelPairing_of_listen (s := dropRequest s) hp hs).trans (failPairing_dropRequest .cancelled s)
end

section
/-! ASK and the candidate list (R34, R36 to R38). -/

namespace Sys2Proof.Machine

open Sys2Proof

/-! ### The qualities of a list (R37) -/

/-- The lowest quality is at most that of each candidate, and at most the bound it starts from (R37). -/
theorem foldl_min_quality_le (q : Nat) (l : List Candidate) :
    l.foldl (fun q x => min q x.quality.toNat) q ≤ q
      ∧ ∀ x ∈ l, l.foldl (fun q x => min q x.quality.toNat) q ≤ x.quality.toNat := by
  induction l generalizing q with
  | nil => exact ⟨Nat.le_refl q, nofun⟩
  | cons y l ih =>
    obtain ⟨hq, hl⟩ := ih (min q y.quality.toNat)
    refine ⟨hq.trans (Nat.min_le_left _ _), fun x hx => ?_⟩
    rcases List.mem_cons.1 hx with rfl | hx
    · exact hq.trans (Nat.min_le_right _ _)
    · exact hl x hx

/-- The lowest quality is at most that of each candidate (R37). -/
theorem lowestQuality_le {l : List Candidate} {x : Candidate} (hx : x ∈ l) : lowestQuality l ≤ x.quality.toNat :=
  (foldl_min_quality_le 255 l).2 x hx

/-- A quality is above the lowest exactly when it is above that of a candidate (R37). -/
theorem lowestQuality_lt_iff {l : List Candidate} {quality : Byte} :
    lowestQuality l < quality.toNat ↔ ∃ x ∈ l, x.quality.toNat < quality.toNat := by
  refine ⟨fun h => ?_, fun ⟨x, hx, h⟩ => (lowestQuality_le hx).trans_lt h⟩
  have hbyte : quality.toNat < 256 := quality.isLt
  obtain ⟨x, hx, he⟩ := exists_lowestQuality (l := l) (by omega)
  exact ⟨x, hx, he ▸ h⟩

/-- The removal of the last candidate of a quality that a list has parts the list there (R37). -/
theorem removeLastOf_split {q : Nat} {l : List Candidate} (h : ∃ x ∈ l, x.quality.toNat = q) :
    ∃ (front back : List Candidate) (x : Candidate), l = front ++ x :: back ∧ x.quality.toNat = q
      ∧ (∀ y ∈ back, y.quality.toNat ≠ q) ∧ removeLastOf q l = front ++ back := by
  obtain ⟨x, hx, hq⟩ := h
  obtain ⟨last, behind, before, hbehind, hlast, hl, herase⟩ :=
    List.exists_of_eraseP (p := fun x => x.quality.toNat == q) (List.mem_reverse.2 hx) (beq_iff_eq.2 hq)
  refine ⟨before.reverse, behind.reverse, last, ?_, beq_iff_eq.1 hlast, fun y hy he => ?_, ?_⟩
  · rw [← List.reverse_reverse l, hl]
    simp only [List.reverse_append, List.reverse_cons, List.append_assoc, List.singleton_append]
  · exact hbehind y (List.mem_reverse.1 hy) (beq_iff_eq.2 he)
  · rw [removeLastOf, herase, List.reverse_append]

/-! ### The list after an ASK (R36, R37) -/

/-- An address is listed exactly when a candidate has it. -/
theorem listed_iff (a : Address) (l : List Candidate) : listed a l = true ↔ ∃ x ∈ l, x.declared.address = a := by
  simp only [listed, List.any_eq_true, beq_iff_eq, Candidate.address]

section
variable {x : Candidate} {l : List Candidate}

/-- A listed candidate is refreshed in its place (R36). -/
theorem hearCandidate_of_listed (h : ∃ y ∈ l, y.declared.address = x.declared.address) :
    hearCandidate x l
      = (l.map fun y => if y.declared.address = x.declared.address then ⟨y.declared, x.quality, x.lastHeard⟩ else y, none) :=
  if_pos ((listed_iff _ _).2 h)

/-- A new candidate is appended where there is room (R36). -/
theorem hearCandidate_of_room (h : ∀ y ∈ l, y.declared.address ≠ x.declared.address) (hl : l.length < 4) :
    hearCandidate x l = (l ++ [x], some l.length) := by
  rw [hearCandidate, if_neg fun hx => ?_, if_pos hl]
  obtain ⟨y, hy, ha⟩ := (listed_iff _ _).1 hx
  exact h y hy ha

/-- A new candidate for a full list goes by its quality: it replaces the last of the lowest, or is dropped (R37). -/
theorem hearCandidate_of_full (h : ∀ y ∈ l, y.declared.address ≠ x.declared.address) (hl : 4 ≤ l.length) :
    hearCandidate x l = if lowestQuality l < x.quality.toNat
      then (removeLastOf (lowestQuality l) l ++ [x], some 3) else (l, none) := by
  rw [hearCandidate, if_neg fun hx => ?_, if_neg (Nat.not_lt.2 hl)]
  obtain ⟨y, hy, ha⟩ := (listed_iff _ _).1 hx
  exact h y hy ha

end

/-! ### The taking of an ASK (R34, R36) -/

/-- A frame is taken in the second half of a turn for the part, with no end pending (R34, R48, R56). -/
theorem inTurn_iff (began : PairState) (h : AirHeader) (s : State) :
    inTurn began h s = true ↔ s.air.use = .turn began false ∧ inSecondHalf s ∧ s.pair.endPending = none
      ∧ h.destination = Config.partAddress := by
  simp only [inTurn, Bool.and_eq_true, secondHalf_iff, beq_iff_eq, and_assoc]

/-- What an earbud declares is declared of its address. -/
theorem checkDeclared_address {a : Address} {raw : RawDeclared} {d : Declared} (h : checkDeclared a raw = some d) :
    d.address = a := by
  unfold checkDeclared at h
  split at h <;> cases h
  rfl

section
variable {h : AirHeader} {s : State}

/-- An ASK that is not taken in LISTEN is ignored (R34, R36). -/
theorem ask_of_not_taken (raw : RawDeclared) (quality : Byte) (ht : ¬(inTurn .listen h s = true ∧ s.pair.state = .listen)) :
    ask h raw quality s = s :=
  if_neg fun hc => ht (by simpa only [Bool.and_eq_true, beq_iff_eq] using hc)

variable {raw : RawDeclared}

/-- A malformed ASK is ignored (R36). -/
theorem ask_of_malformed (quality : Byte) (hd : checkDeclared h.source raw = none) : ask h raw quality s = s := by
  unfold ask
  split
  · rw [hd]
  · rfl

/-- A well-formed ASK taken in LISTEN is heard (R36, R37). -/
theorem ask_of_taken {d : Declared} (quality : Byte) (ht : inTurn .listen h s = true) (hs : s.pair.state = .listen)
    (hd : checkDeclared h.source raw = some d) {after : List Candidate} {index : Option Nat}
    (hx : hearCandidate ⟨d, quality, s.air.interval⟩ s.pair.candidates = (after, index)) :
    ask h raw quality s = raiseCandidate index { s with pair := { s.pair with candidates := after } } := by
  rw [ask, if_pos (by simp only [ht, hs, beq_self_eq_true, Bool.and_self]), hd]
  simp only [hx]
  rfl

end

end Sys2Proof.Machine

open Sys2Proof Sys2Proof.Machine

/-- Settles O17: an ASK by whether it is taken, then by what the list holds of its address and its qualities. -/
theorem askListsCandidatesThatExpire : Obligations.AskListsCandidatesThatExpire := by
  refine ⟨fun h raw quality s hu hs hp hdest => ⟨fun hhalf => ?_, fun hhalf => ⟨fun hd => ?_, fun d hd => ?_⟩⟩,
    fun h raw quality s hn => ?_, fun s => ⟨fun hs => congrArg _ (if_pos hs), fun hs => congrArg _ (if_neg hs)⟩⟩
  · exact congrArg _ (ask_of_not_taken raw quality fun ht => hhalf ((inTurn_iff _ _ _).1 ht.1).2.1)
  · exact congrArg _ (ask_of_malformed quality hd)
  · have ht : inTurn .listen h s = true := (inTurn_iff _ _ _).2 ⟨hu, hhalf, hp, hdest⟩
    rw [← checkDeclared_address hd]
    refine ⟨fun hl => ?_, fun hnew => ⟨fun hroom => ?_, fun hfull => ?_⟩⟩
    · exact congrArg _ (ask_of_taken quality ht hs hd (hearCandidate_of_listed hl))
    · exact congrArg _ (ask_of_taken quality ht hs hd (hearCandidate_of_room hnew hroom))
    · have hheard := hearCandidate_of_full (x := ⟨d, quality, s.air.interval⟩) hnew hfull
      refine ⟨fun hbetter => ?_, fun hworse => ?_⟩
      · have hlow := lowestQuality_lt_iff.2 hbetter
        have hbyte : quality.toNat < 256 := quality.isLt
        obtain ⟨front, back, x, hl, hx, hback, hrest⟩ :=
          removeLastOf_split (exists_lowestQuality (l := s.pair.candidates) (by omega))
        have hle : ∀ y ∈ front ++ x :: back, x.quality.toNat ≤ y.quality.toNat := fun y hy =>
          hx ▸ lowestQuality_le (hl ▸ hy)
        refine ⟨front, back, x, hl, fun y hy => hle y (List.mem_append_left _ hy), fun y hy => ?_, ?_⟩
        · have hne := hback y hy
          have := hle y (List.mem_append_right _ (List.mem_cons_of_mem _ hy))
          omega
        · rw [if_pos hlow, hrest] at hheard
          exact congrArg _ (ask_of_taken quality ht hs hd hheard)
      · rw [if_neg fun hlow => ?_] at hheard
        · exact congrArg _ (ask_of_taken quality ht hs hd hheard)
        · obtain ⟨x, hx, hlt⟩ := lowestQuality_lt_iff.1 hlow
          exact absurd (hworse x hx) (Nat.not_le.2 hlt)
  · refine congrArg _ (ask_of_not_taken raw quality fun ⟨ht, hs⟩ => ?_)
    obtain ⟨hu, -, hp, -⟩ := (inTurn_iff _ _ _).1 ht
    exact hn ⟨hu, hs, hp⟩
end

section
/-! The partner's frames, the key unit and the timers of a handshake (R34, R39, R41 to R48). -/

namespace Sys2Proof.Machine

open Sys2Proof

/-! ### The partner's frames (R42, R44, R45) -/

/-- A key computation runs at once in an idle unit (R42). -/
theorem KeyUnit.begin_of_idle {u : KeyUnit} (partValue earValue : PublicValue) (h : u.running = none) :
    u.begin partValue earValue = ⟨some ⟨partValue, earValue, 0, false⟩, u.waiting⟩ := by
  simp only [KeyUnit.begin, h]

/-- A key computation waits behind one in flight (R42). -/
theorem KeyUnit.begin_of_running {u : KeyUnit} {k : KeyComputation} (partValue earValue : PublicValue)
    (h : u.running = some k) : u.begin partValue earValue = ⟨some k, some (partValue, earValue)⟩ := by
  simp only [KeyUnit.begin, h]

section
variable {h : AirHeader} {s : State}

/-- An ACCEPT of the partner in OFFERED stores the ear value and asks for the key (R42). -/
theorem accept_of_taken (earValue : PublicValue) (ht : partnerTurn .offered h s) (hs : s.pair.state = .offered) :
    accept h earValue s = { s with
      pair := { s.pair with state := .keying, earValue := some earValue }
      keyUnit := s.keyUnit.begin (s.pair.partValue.getD []) earValue } :=
  if_pos ((takenFromPartner_iff .offered h s).2 ⟨ht, hs⟩)

/-- A CONFIRM of the partner in KEYING or COMPARE is kept, and settled with the host's (R44). -/
theorem confirm_of_taken (ht : partnerTurn .keying h s ∨ partnerTurn .compare h s)
    (hs : s.pair.state = .keying ∨ s.pair.state = .compare) :
    confirm h s = s.setPair { s.pair with earConfirmed := true }.settleConfirmed :=
  if_pos ((wordTaken_iff h s).2 ⟨ht, hs⟩)

/-- A REJECT of the partner in KEYING or COMPARE fails the pairing (R45). -/
theorem reject_of_taken (ht : partnerTurn .keying h s ∨ partnerTurn .compare h s)
    (hs : s.pair.state = .keying ∨ s.pair.state = .compare) : reject h s = failPairing .rejectedByEar s :=
  if_pos ((wordTaken_iff h s).2 ⟨ht, hs⟩)

end

/-! ### The turn's halves and the bind (R34, R46, R48) -/

/-- The end of the first half of a turn that carried the ABANDON fails the pairing (R48). -/
theorem turnFirstHalfEnd_of_abandon {s : State} {began : PairState} {reason : FailReason} (hu : s.air.use = .turn began true)
    (hp : s.pair.endPending = some reason) : turnFirstHalfEnd s = failPairing reason (passToOffset 2000 s) := by
  have hturn : pairingTurn s = true := by simp only [pairingTurn, hu]
  have habandon : abandonTurn (passToOffset 2000 s) = true := by
    rw [passToOffset_eq]
    simp only [abandonTurn, hu]
  rw [turnFirstHalfEnd, if_pos hturn, endAbandon]
  simp only [passToOffset_pair, hp, habandon, if_true]

/-- The end of the first half of another turn lets time pass to it (R34). -/
theorem turnFirstHalfEnd_of_turn {s : State} {began : PairState} (hu : s.air.use = .turn began false) :
    turnFirstHalfEnd s = { s with air := { s.air with timeBase := timeFrom 2000 s.air } } := by
  have hturn : pairingTurn s = true := by simp only [pairingTurn, hu]
  have habandon : abandonTurn (passToOffset 2000 s) = false := by
    rw [passToOffset_eq]
    simp only [abandonTurn, hu]
  rw [turnFirstHalfEnd, if_pos hturn, endAbandon]
  simp only [habandon, Bool.false_eq_true, if_false]
  split <;> exact passToOffset_eq 2000 s

/-- The tenth BIND has gone unanswered in BINDING with no end pending (R46). -/
theorem bindNoAnswerDue_iff (p : PairContext) :
    bindNoAnswerDue p = true ↔ p.state = .binding ∧ p.endPending = none ∧ 10 ≤ p.bindCount := by
  simp only [bindNoAnswerDue, Bool.and_eq_true, beq_iff_eq, decide_eq_true_iff, and_assoc]

/-! ### The attempts (R41) -/

/-- An attempt ends without an ACCEPT after four turns in OFFERED with no end pending (R41). -/
theorem offerTimeoutDue_iff (p : PairContext) :
    offerTimeoutDue p = true ↔ p.state = .offered ∧ p.endPending = none ∧ 4 ≤ p.turnsWaited := by
  simp only [offerTimeoutDue, Bool.and_eq_true, beq_iff_eq, decide_eq_true_iff, and_assoc]

section
variable {s : State} (hdue : s.pair.state = .offered ∧ s.pair.endPending = none ∧ 4 ≤ s.pair.turnsWaited)
include hdue

/-- After attempt 1 or 2 the next attempt begins (R41). -/
theorem offerTimeout_of_attempt (ha : s.pair.attempt < 3) :
    offerTimeout s = { s with pair := { s.pair with attempt := s.pair.attempt + 1, turnsWaited := 0 } } :=
  (if_pos ((offerTimeoutDue_iff _).2 hdue)).trans (if_pos ha)

/-- After attempt 3 the pick fails, and the window's end follows where it is due (R39, R41). -/
theorem offerTimeout_of_last (ha : 3 ≤ s.pair.attempt) :
    offerTimeout s = windowEnd (raise Source.pairEvent 4 1 (s.setPair s.pair.failPick)) :=
  (if_pos ((offerTimeoutDue_iff _).2 hdue)).trans (if_neg (Nat.not_lt.2 ha))

end

/-- A failed pick takes the partner's candidate off the list and returns to LISTEN (R41). -/
theorem failPick_of_partner {p : PairContext} {x : Candidate} (hx : p.partner = some x) :
    p.failPick = { p with
      state := .listen
      candidates := p.candidates.filter fun y => y.declared.address != x.declared.address
      partner := none, partValue := none, attempt := 1 } := by
  rw [PairContext.failPick, hx]
  rfl

/-! ### The key unit's delivery (R42, R43) -/

/-- The comparison code is the key's first four bytes modulo 1,000,000 (R43). -/
theorem codeOfKey_eq (key : Key) : codeOfKey key = (key.extractLsb' 96 32).toNat % 1000000 := by
  have hkey : key.toNat < 2 ^ 128 := key.isLt
  rw [codeOfKey, BitVec.extractLsb'_toNat, Nat.shiftRight_eq_div_pow,
    Nat.mod_eq_of_lt (a := key.toNat / 2 ^ 96) (b := 2 ^ 32) (by omega)]

/-- A completed computation is delivered in KEYING with no end pending, unless it was discarded (R43). -/
theorem delivers_iff (k : KeyComputation) (p : PairContext) :
    delivers k p = true ↔ k.discarded = false ∧ p.state = .keying ∧ p.endPending = none := by
  simp only [delivers, Bool.and_eq_true, Bool.not_eq_true', beq_iff_eq, and_assoc]

/-- A computation that has run its five intervals completes, and is delivered or not (R42, R43). -/
theorem keyComputationDone_of_finished {s : State} {k : KeyComputation} (hk : s.keyUnit.running = some k)
    (h5 : 5 ≤ k.intervals) :
    keyComputationDone s = if delivers k s.pair
      then deliverKey (Config.linkKey k.partValue k.earValue) { s with keyUnit := s.keyUnit.complete }
      else { s with keyUnit := s.keyUnit.complete } := by
  have hf : s.keyUnit.finished = some k := by simp only [KeyUnit.finished, hk, if_pos h5]
  rw [keyComputationDone, hf]

end Sys2Proof.Machine

open Sys2Proof Sys2Proof.Machine

/-- Settles O18: each frame by whether it is taken, then by the state of the context. -/
theorem partnerFramesMoveHandshake : Obligations.PartnerFramesMoveHandshake := by
  refine fun h earValue s => ⟨fun ht hs => ?_, fun ht => ⟨fun hs => ?_, fun hs => ?_, fun hs => ?_⟩, fun hn => ?_,
    fun hn => ⟨?_, ?_⟩⟩
  · refine congrArg _ ((accept_of_taken earValue ht hs).trans ?_)
    cases hr : s.keyUnit.running with
    | none => rw [KeyUnit.begin_of_idle _ _ hr]
    | some k => rw [KeyUnit.begin_of_running _ _ hr]
  · refine congrArg _ ((confirm_of_taken ht (.inl hs)).trans (congrArg s.setPair (settleConfirmed_of_not_compare ?_)))
    exact fun hc => nomatch hs.symm.trans hc
  · exact congrArg _ ((confirm_of_taken ht (.inr hs)).trans (congrArg s.setPair (settleConfirmed_of_ear hs)))
  · exact ⟨failPairing .rejectedByEar s, congrArg _ (reject_of_taken ht hs), failPairing_spec .rejectedByEar s⟩
  · exact congrArg _ (if_neg fun ht => hn ((takenFromPartner_iff .offered h s).1 ht))
  · exact congrArg _ (if_neg fun ht => hn ((wordTaken_iff h s).1 ht))
  · exact congrArg _ (if_neg fun ht => hn ((wordTaken_iff h s).1 ht))

/-- Settles O20: each timer by whether it is due. -/
theorem pairingTimersEndHandshake : Obligations.PairingTimersEndHandshake := by
  refine ⟨fun s => ⟨fun hs hw => ?_, fun hs hp hb => ?_, fun began reason hu hp => ?_, fun began hu => ⟨fun hhalf => ?_,
    fun hhalf => ?_⟩⟩, fun s hs hp ht => ⟨fun ha => ?_, ?_⟩, fun s hs hp => ⟨fun hc => ?_, fun hc => ?_⟩⟩
  · exact ⟨failPairing .windowEnd s, congrArg _ (if_pos ⟨hs, hw⟩), failPairing_spec .windowEnd s⟩
  · exact ⟨failPairing .noAnswer (passToOffset 4000 s), congrArg _ (if_pos ((bindNoAnswerDue_iff _).2 ⟨hs, hp, hb⟩)),
      failPairing_after 4000 .noAnswer s⟩
  · exact ⟨failPairing reason (passToOffset 2000 s), congrArg _ (turnFirstHalfEnd_of_abandon hu hp),
      failPairing_after 2000 reason s⟩
  · refine congrArg _ ((turnFirstHalfEnd_of_turn hu).trans ?_)
    rw [timeFrom, if_pos hhalf]
  · refine congrArg _ ((turnFirstHalfEnd_of_turn hu).trans ?_)
    rw [timeFrom, if_neg hhalf]
  · exact congrArg _ (offerTimeout_of_attempt ⟨hs, hp, ht⟩ ha)
  · intro x u ha hx hu
    have hlast := offerTimeout_of_last ⟨hs, hp, ht⟩ ha
    rw [failPick_of_partner hx, State.setPair, ← hu] at hlast
    have hlisten : u.pair.state = .listen := by rw [hu]; rfl
    have hended : u.pair.windowEnded = s.pair.windowEnded := by rw [hu]; rfl
    refine ⟨fun hw => congrArg _ (hlast.trans (if_neg fun he => ?_)), fun hw => ⟨failPairing .windowEnd u,
      congrArg _ (hlast.trans (if_pos ⟨hlisten, hended.trans hw⟩)), failPairing_spec .windowEnd u⟩⟩
    exact nomatch (hended.trans hw).symm.trans he.2
  · exact congrArg _ (if_pos ⟨hs, hp, hc⟩)
  · exact congrArg _ (if_neg fun he => Nat.not_lt.2 he.2.2 hc)

/-- Settles O21, by whether the completed computation is delivered. -/
theorem keyComputationDeliversCode : Obligations.KeyComputationDeliversCode := by
  refine fun s k hk h5 => ⟨s.keyUnit.complete, rfl, fun hd hs hp => ?_, fun hn => ?_⟩
  · rw [← codeOfKey_eq]
    exact congrArg _ ((keyComputationDone_of_finished hk h5).trans (if_pos ((delivers_iff _ _).2 ⟨hd, hs, hp⟩)))
  · refine congrArg _ ((keyComputationDone_of_finished hk h5).trans (if_neg fun hd => ?_))
    obtain ⟨hd, hs, hp⟩ := (delivers_iff _ _).1 hd
    exact hn.elim (fun h => nomatch h.symm.trans hd) fun h => h.elim (· hs) (· hp)
end

section
/-! The end of an air interval (R39, R41, R42, R45, R53, R61, R68, R69, R90). -/

namespace Sys2Proof.Machine

open Sys2Proof

/-! ### The counts, record by record -/

/-- A stream slot at the end of an interval, whole (R61, R68, R69). -/
theorem StreamSlot.endInterval_eq (x : StreamSlot) :
    x.endInterval = { x with
      supervision := if x.state = .streaming ∨ x.state = .leaving
        then (if x.heard then 0 else saturatingSucc 50 x.supervision) else x.supervision
      intervalCount := if (x.state = .joining ∧ x.carried = .joinReq) ∨ (x.state = .leaving ∧ x.carried = .leave)
        then saturatingSucc 20 x.intervalCount else x.intervalCount
      heard := false, retryCandidate := false, carried := .nothing } := by
  cases hs : x.state with
  | free => simp only [endInterval, hs, reduceCtorEq, false_and, or_self, if_false]
  | streaming => simp only [endInterval, hs, reduceCtorEq, false_and, or_self, or_false, if_true, if_false]
  | joining =>
    cases hc : x.carried <;>
      simp only [endInterval, hs, hc, reduceCtorEq, true_and, false_and, or_self, or_false, if_true, if_false]
  | leaving =>
    cases hc : x.carried <;>
      simp only [endInterval, hs, hc, reduceCtorEq, true_and, false_and, or_self, or_true, if_true, if_false]

/-- A receive queue at the end of an interval, whole (R90). -/
theorem RxQueue.endInterval_eq (q : RxQueue) :
    q.endInterval = { q with
      quiet := if (q.state = .filling ∨ q.state = .starved) ∧ q.arrival = false then saturatingSucc 4 q.quiet else q.quiet
      arrival := false } := by
  cases hs : q.state with
  | stopped => simp only [endInterval, hs, reduceCtorEq, or_self, false_and, if_false]
  | playing => simp only [endInterval, hs, reduceCtorEq, or_self, false_and, if_false]
  | filling => cases ha : q.arrival <;> simp [endInterval, hs, ha]
  | starved => cases ha : q.arrival <;> simp [endInterval, hs, ha]

/-- The turns waited at the end of an interval, whole (R41). -/
theorem PairContext.countTurn_eq (use : SlotUse) (p : PairContext) :
    p.countTurn use = { p with
      turnsWaited := if use = .turn .offered false then saturatingSucc 4 p.turnsWaited else p.turnsWaited } := by
  unfold countTurn
  split <;> rfl

/-- The turns waited and the compare count at the end of an interval, whole (R41, R45, R48). -/
theorem PairContext.countWaits_eq (use : SlotUse) (p : PairContext) :
    p.countWaits use = { p with
      turnsWaited := if p.endPending = none ∧ use = .turn .offered false
        then saturatingSucc 4 p.turnsWaited else p.turnsWaited
      compareCount := if p.state = .compare ∧ p.endPending = none
        then saturatingSucc 3000 p.compareCount else p.compareCount } := by
  rw [countWaits, countTurn_eq]
  by_cases hp : p.endPending = none
  · simp only [hp, if_true, true_and, and_true]
    split
    · next hs => rw [if_pos hs]
    · next hs => rw [if_neg hs]
  · simp only [hp, if_false, false_and, and_false]

/-- The window count and window ended at the end of an interval, whole (R39). -/
theorem PairContext.countWindow_eq (p : PairContext) :
    p.countWindow = { p with
      windowCount := if p.state = .idle then p.windowCount else saturatingSucc (100 * p.window) p.windowCount
      windowEnded := if p.state = .idle then p.windowEnded
        else decide (100 * p.window ≤ saturatingSucc (100 * p.window) p.windowCount) } := by
  unfold countWindow
  split <;> rfl

/-! ### The end of the interval (R53) -/

/-- The time at which the interval of a turn ends: not before the turn's second half (R34, R46). -/
def timeAfterTurn (a : AirState) : Tick :=
  match a.use with
  | .turn _ _ => timeFrom 2000 a
  | _ => a.timeBase

/-- Outside a turn there is no first half to end (R34). -/
theorem turnFirstHalfEnd_of_no_turn {s : State} (hu : pairingTurn s = false) : turnFirstHalfEnd s = s :=
  if_neg (Bool.eq_false_iff.1 hu)

/-- A turn that neither carried an ABANDON nor was the tenth unanswered BIND's leaves the time alone (R46, R48). -/
theorem finishTurn_of_no_end {s : State} (hu : ∀ began, s.air.use ≠ .turn began true)
    (hb : ¬(s.pair.state = .binding ∧ s.pair.endPending = none ∧ 10 ≤ s.pair.bindCount)) :
    finishTurn s = { s with air := { s.air with timeBase := timeAfterTurn s.air } } := by
  have hhalf : turnFirstHalfEnd s = { s with air := { s.air with timeBase := timeAfterTurn s.air } } := by
    cases h : s.air.use with
    | turn began ending =>
      cases ending with
      | true => exact absurd h (hu began)
      | false =>
        rw [turnFirstHalfEnd_of_turn h, timeAfterTurn, h]
    | _ => rw [turnFirstHalfEnd_of_no_turn (by simp only [pairingTurn, h]), timeAfterTurn, h]
  rw [finishTurn, hhalf]
  exact if_neg fun h => hb ((bindNoAnswerDue_iff _).1 h)

/-- The end of an interval whose slots have begun and whose turn ends no pairing (R53). -/
theorem airIntervalEnd_of_no_end {s : State} (hslot : s.air.slot ≠ none) (hu : ∀ began, s.air.use ≠ .turn began true)
    (hb : ¬(s.pair.state = .binding ∧ s.pair.endPending = none ∧ 10 ≤ s.pair.bindCount)) :
    airIntervalEnd s
      = nextInterval (countInterval { s with air := { s.air with timeBase := timeAfterTurn s.air } }) := by
  rw [airIntervalEnd, if_neg hslot, finishTurn_of_no_end hu hb]

end Sys2Proof.Machine

open Sys2Proof Sys2Proof.Machine

/-- Settles O32: with no end of a pairing due, the interval's end is its counts and the next interval's beginning. -/
theorem intervalEndAdvancesCounts : Obligations.IntervalEndAdvancesCounts := by
  intro s hslot hu hb
  refine ⟨nextInterval (countInterval { s with air := { s.air with timeBase := timeAfterTurn s.air } }), timeAfterTurn s.air,
    congrArg _ (airIntervalEnd_of_no_end hslot hu hb), rfl, ?_, fun k => ⟨?_, ?_⟩, ?_, rfl,
    ⟨rfl, rfl, rfl, rfl, rfl, rfl, rfl, rfl, rfl, rfl, rfl⟩, rfl, rfl⟩
  · rw [nextInterval_air, passUntil_spec]
    rfl
  · exact (Vector.getElem_map _ k.isLt).trans (StreamSlot.endInterval_eq _)
  · exact (Vector.getElem_map _ k.isLt).trans (RxQueue.endInterval_eq _)
  · show s.pair.endInterval s.air.use = _
    rw [PairContext.endInterval, PairContext.countWindow_eq, PairContext.countWaits_eq]
end

section
/-! Slot 9: the pairing turn or the retry, and the denials (R34, R41, R46, R48, R71 to R73). -/

namespace Sys2Proof.Machine

open Sys2Proof

/-! ### The denials of slot 9 (R73) -/

/-- The stream slots in their order. -/
abbrev slotsInOrder : List SlotId := [0, 1, 2, 3]

/-- The notices once RETRY_DENIED has been raised for some slots, one after the other (R73). -/
def toldDenials (code : Byte) (slots : List SlotId) (n : Notices) : Notices :=
  slots.foldl (fun n k => n.occur Source.retryDenied (some k.val) code (BitVec.ofNat 32 k.val)) n

section
variable (code : Byte)

/-- One more slot denied, the last. -/
theorem toldDenials_concat (slots : List SlotId) (k : SlotId) (n : Notices) :
    toldDenials code (slots ++ [k]) n
      = (toldDenials code slots n).occur Source.retryDenied (some k.val) code (BitVec.ofNat 32 k.val) :=
  List.foldl_concat ..

/-- Denials reach the records alone, and the attention line. -/
theorem toldDenials_settings (slots : List SlotId) (n : Notices) :
    (toldDenials code slots n).route = n.route ∧ (toldDenials code slots n).classes = n.classes
      ∧ (toldDenials code slots n).outstanding = n.outstanding := by
  induction slots using List.reverseRecOn with
  | nil => exact ⟨rfl, rfl, rfl⟩
  | append_singleton slots k ih => rw [toldDenials_concat]; exact ih

/-- Denials leave the records of the other sources. -/
theorem toldDenials_record_other {other : SourceId} (h : other ≠ Source.retryDenied) (slots : List SlotId) (n : Notices) :
    (toldDenials code slots n).records[other] = n.records[other] := by
  induction slots using List.reverseRecOn with
  | nil => rfl
  | append_singleton slots k ih => rw [toldDenials_concat, Notices.occur_record_other h, ih]

/-- The index set of RETRY_DENIED takes the slots denied. -/
theorem toldDenials_indexSet (slots : List SlotId) (n : Notices) (j : SlotId) :
    (toldDenials code slots n).records[Source.retryDenied].indexSet.getLsbD j.val
      = (n.records[Source.retryDenied].indexSet.getLsbD j.val || decide (j ∈ slots)) := by
  induction slots using List.reverseRecOn with
  | nil => simp [toldDenials]
  | append_singleton slots k ih =>
    rw [toldDenials_concat, Notices.occur_record]
    refine (IndexSet.with_getLsbD j k _).trans ?_
    rw [ih, Bool.or_assoc, ← Bool.decide_or]
    simp only [List.mem_append, List.mem_singleton, eq_comm (a := j)]

/-- The occurrences of RETRY_DENIED count the slots denied, up to 255. -/
theorem toldDenials_occurrences (slots : List SlotId) {n : Notices}
    (h : n.records[Source.retryDenied].occurrences ≤ 255) :
    (toldDenials code slots n).records[Source.retryDenied].occurrences
      = min 255 (n.records[Source.retryDenied].occurrences + slots.length) := by
  induction slots using List.reverseRecOn with
  | nil => exact (Nat.min_eq_right h).symm
  | append_singleton slots k ih =>
    rw [toldDenials_concat, Notices.occur_record, List.length_append, List.length_singleton]
    show saturatingSucc 255 _ = _
    rw [ih, saturatingSucc]
    split <;> omega

end

/-- The slots denied, as they are told in their order, are what the statements say is told (R73). -/
theorem denialsTold_of_toldDenials {code : Byte} {denied : SlotId → Bool} {s t : State}
    (h : t.notices = toldDenials code (slotsInOrder.filter denied) s.notices) : denialsTold code denied s t := by
  rw [denialsTold, h]
  refine ⟨fun hnone => ?_, fun k hk hlast => ?_, fun j => ?_, fun hle => ?_,
    fun other ho => toldDenials_record_other code ho _ _, toldDenials_settings code _ _⟩
  · rw [List.filter_eq_nil_iff.2 fun k _ => by rw [hnone k]; nofun]
    rfl
  · obtain ⟨pre, post, hsplit, -, hpost⟩ := slots_split k
    have hempty : post.filter denied = [] := List.filter_eq_nil_iff.2 fun j hj => by rw [hlast j (hpost j hj)]; nofun
    rw [slotsInOrder, hsplit, List.filter_append, List.filter_cons_of_pos hk, hempty, toldDenials_concat,
      Notices.occur_record]
    exact ⟨rfl, rfl, rfl⟩
  · simp only [toldDenials_indexSet, List.mem_filter, mem_slots, true_and, Bool.decide_eq_true]
  · rw [List.countP_eq_length_filter]
    exact toldDenials_occurrences code _ hle

/-! ### One candidate denied, and all of them (R73) -/

/-- What slot `k` holds of a retry: its record and its queue. -/
def retryAt (k : SlotId) (s : State) : StreamSlot × RxQueue := (s.slots[k], s.queues[k])

/-- A slot's record and queue once the slot, if it was a candidate, has been denied (R73). -/
def retryDenied (x : StreamSlot × RxQueue) : StreamSlot × RxQueue :=
  ({ x.1 with retryCandidate := false },
    { x.2 with stats := { x.2.stats with
      retryDenials := if x.1.retryCandidate then saturatingSucc max32 x.2.stats.retryDenials else x.2.stats.retryDenials } })

/-- `t` is `s` but for the slots, the queues and the notices. -/
def OnlyStreamsAndNotices (s t : State) : Prop :=
  t = { s with slots := t.slots, queues := t.queues, notices := t.notices }

/-- What two steps leave, one after the other, stands. -/
theorem OnlyStreamsAndNotices.trans {s t u : State} (h : OnlyStreamsAndNotices s t) (g : OnlyStreamsAndNotices t u) :
    OnlyStreamsAndNotices s u := Eq.trans g (by rw [h])

section
variable (code : Byte)

/-- A denial reaches the slots, the queues and the notices (R73). -/
theorem denyRetry_only (k : SlotId) (s : State) : OnlyStreamsAndNotices s (denyRetry code k s) := by
  unfold denyRetry
  split <;> rfl

/-- A slot's denial reaches its record and its queue (R73). -/
theorem retryAt_denyRetry_same (k : SlotId) (s : State) : retryAt k (denyRetry code k s) = retryDenied (retryAt k s) := by
  unfold denyRetry
  split
  · next h => simp [-Fin.getElem_fin, retryAt, retryDenied, set_get, h, bump]
  · next h =>
    rw [Bool.not_eq_true] at h
    simp only [retryAt, retryDenied, h, Bool.false_eq_true, if_false]
    rw [← h]

/-- A slot's denial leaves the records and queues of the others (R73). -/
theorem retryAt_denyRetry_other (j k : SlotId) (s : State) (hj : j ≠ k) : retryAt j (denyRetry code k s) = retryAt j s := by
  unfold denyRetry
  split
  · exact Prod.ext (set_get_other _ hj _) (set_get_other _ hj _)
  · rfl

/-- A slot's denial is told, if it was a candidate (R73). -/
theorem denyRetry_notices (k : SlotId) (s : State) :
    (denyRetry code k s).notices = if (retryAt k s).1.retryCandidate
      then s.notices.occur Source.retryDenied (some k.val) code (BitVec.ofNat 32 k.val) else s.notices := by
  unfold denyRetry
  split
  · next h => exact (if_pos h).symm
  · next h => exact (if_neg h).symm

/-- Every candidate left is denied: what its slot and queue hold (R73). -/
theorem denials_retryAt (k : SlotId) (s : State) :
    retryAt k (forEachSlot (denyRetry code) s) = retryDenied (retryAt k s) :=
  forEachSlot_view (retryAt_denyRetry_same code) (retryAt_denyRetry_other code) k s

/-- The denials, told in the order of the slots (R73). -/
theorem denials_notices (s : State) : (forEachSlot (denyRetry code) s).notices
    = toldDenials code (slotsInOrder.filter fun k => s.slots[k].retryCandidate) s.notices := by
  rw [toldDenials, List.foldl_filter]
  exact forEachSlot_fold (acc := State.notices) (g := fun k x n => if x.1.retryCandidate
    then n.occur Source.retryDenied (some k.val) code (BitVec.ofNat 32 k.val) else n)
    (retryAt_denyRetry_other code) (denyRetry_notices code) s

/-- The denials reach the slots, the queues and the notices (R73). -/
theorem denials_fields (s : State) :
    forEachSlot (denyRetry code) s = { s with
      slots := (forEachSlot (denyRetry code) s).slots, queues := (forEachSlot (denyRetry code) s).queues,
      notices := (forEachSlot (denyRetry code) s).notices } :=
  forEachSlot_of_trans (R := OnlyStreamsAndNotices) .trans (denyRetry_only code) s

/-- The denials leave the air (R73). -/
theorem denials_air (s : State) : (forEachSlot (denyRetry code) s).air = s.air := by rw [denials_fields]

/-- The denials leave the pairing (R73). -/
theorem denials_pair (s : State) : (forEachSlot (denyRetry code) s).pair = s.pair := by rw [denials_fields]

/-- With no candidate left, nothing is denied (R73). -/
theorem denials_of_none {s : State} (h : ∀ k : SlotId, s.slots[k].retryCandidate = false) :
    forEachSlot (denyRetry code) s = s := by
  have hk : ∀ k : SlotId, denyRetry code k s = s := fun k => if_neg (Bool.eq_false_iff.1 (h k))
  rw [forEachSlot, hk, hk, hk, hk]

end

/-! ### The arbiter's grant (R71, R72) -/

/-- The arbiter's turns go on from the slot after last granted. -/
theorem turns_pairwise (last : SlotId) :
    [last + 1, last + 2, last + 3, last].Pairwise fun j k => j - last - 1 ≤ k - last - 1 := by
  revert last
  decide

/-- Every slot has its turn. -/
theorem mem_turns (last k : SlotId) : k ∈ [last + 1, last + 2, last + 3, last] := by
  revert last k
  decide

/-- With no candidate there is none next (R71). -/
theorem nextCandidate_of_none {s : State} (h : ∀ k : SlotId, s.slots[k].retryCandidate = false) : nextCandidate s = none :=
  List.find?_eq_none.2 fun k _ => Bool.eq_false_iff.1 (h k)

/-- With a candidate the next is the first in turn after last granted (R71). -/
theorem nextCandidate_of_some {s : State} (h : ∃ k : SlotId, s.slots[k].retryCandidate = true) :
    ∃ k : SlotId, nextCandidate s = some k ∧ s.slots[k].retryCandidate = true
      ∧ ∀ j : SlotId, s.slots[j].retryCandidate = true → k - s.air.lastGranted - 1 ≤ j - s.air.lastGranted - 1 := by
  obtain ⟨c, hc⟩ := h
  cases hn : nextCandidate s with
  | none => exact absurd hc (List.find?_eq_none.1 hn c (mem_turns _ c))
  | some k =>
    obtain ⟨hk, before, behind, hsplit, hbefore⟩ := List.find?_eq_some_iff_append.1 hn
    refine ⟨k, rfl, hk, fun j hj => ?_⟩
    have hmem := mem_turns s.air.lastGranted j
    have horder := turns_pairwise s.air.lastGranted
    rw [hsplit] at hmem horder
    rcases List.mem_append.1 hmem with hb | hb
    · have hno := hbefore j hb
      rw [hj] at hno
      exact absurd hno nofun
    · rcases List.mem_cons.1 hb with rfl | hb
      · exact Nat.le_refl _
      · exact List.rel_of_pairwise_cons (List.pairwise_append.1 horder).2.1 hb

/-- With no candidate nothing is granted (R71). -/
theorem grantSpare_of_none {s : State} (h : nextCandidate s = none) : grantSpare s = s := by
  rw [grantSpare, h]

/-- The grant to the next candidate, whole: it is a candidate no more, and its earbud is sent a POLL (R71, R72). -/
theorem grantSpare_of_some {s : State} {k : SlotId} (h : nextCandidate s = some k) :
    grantSpare s = { s with
      slots := s.slots.set k { s.slots[k] with retryCandidate := false }
      air := { s.air with
        use := .spare k, lastGranted := k, sent := some ⟨(slotAddress k s).getD 0, Config.partAddress, .poll k⟩ } } := by
  have haddress : slotAddress k (s.setSlot k { s.slots[k] with retryCandidate := false }) = slotAddress k s := by
    simp only [slotAddress, slotContents, State.setSlot_slots, State.setSlot_roster, set_get]
  rw [grantSpare, h, ← haddress]
  rfl

/-- The address of a slot's earbud is that of its entry's contents. -/
theorem slotAddress_of_contents {s : State} {k : SlotId} {i : EntryId} {held : Contents}
    (hi : s.slots[k].rosterIndex = some i) (hc : s.roster[i].contents = some held) :
    slotAddress k s = some held.declared.address := by
  simp only [slotAddress, slotContents, hi, hc, Option.map_some]

/-! ### The pairing turn (R34, R41, R46, R48) -/

/-- The frame of a turn's first half, by the state of the context (R34, R41, R46, R48). -/
def turnFrame (p : PairContext) : AirFrame :=
  if p.endPending ≠ none then ⟨(p.partner.map Candidate.address).getD 0, Config.partAddress, .abandon⟩
  else match p.state with
    | .idle => ⟨0, 0, .abandon⟩
    | .listen => ⟨BitVec.allOnes 48, Config.partAddress, .beacon Config.partAddress true⟩
    | .offered => if p.turnsWaited = 0
        then ⟨(p.partner.map Candidate.address).getD 0, Config.partAddress, .offer (p.partValue.getD [])⟩
        else ⟨BitVec.allOnes 48, Config.partAddress, .beacon Config.partAddress false⟩
    | .keying => ⟨BitVec.allOnes 48, Config.partAddress, .beacon Config.partAddress false⟩
    | .compare => ⟨BitVec.allOnes 48, Config.partAddress, .beacon Config.partAddress false⟩
    | .binding => ⟨(p.partner.map Candidate.address).getD 0, Config.partAddress, .bindFrame⟩

/-- The context once its turn's frame has been sent: a BIND counts (R46). -/
def bindCounted (p : PairContext) : PairContext :=
  if p.endPending = none ∧ p.state = .binding then { p with bindCount := saturatingSucc 10 p.bindCount } else p

/-- A BIND counts (R46). -/
theorem bindCounted_of_binding {p : PairContext} (hp : p.endPending = none) (hs : p.state = .binding) :
    bindCounted p = { p with bindCount := saturatingSucc 10 p.bindCount } := if_pos ⟨hp, hs⟩

/-- A turn without a BIND leaves the context (R46). -/
theorem bindCounted_of_other {p : PairContext} (h : ¬(p.endPending = none ∧ p.state = .binding)) : bindCounted p = p :=
  if_neg h

/-- The frame of a turn, sent (R34, R41, R46, R48). -/
theorem sendTurnFrame_eq {s : State} (h : s.pair.state ≠ .idle) :
    sendTurnFrame s = { s with pair := bindCounted s.pair, air := { s.air with sent := some (turnFrame s.pair) } } := by
  unfold sendTurnFrame turnFrame
  by_cases hp : s.pair.endPending = none
  · rw [if_pos hp, if_neg (not_not.2 hp)]
    cases hs : s.pair.state with
    | idle => exact absurd hs h
    | binding =>
      rw [bindCounted_of_binding hp hs]
      rfl
    | offered =>
      rw [bindCounted_of_other fun h => nomatch hs.symm.trans h.2]
      by_cases hw : s.pair.turnsWaited = 0 <;> simp only [hw, if_true, if_false] <;> rfl
    | _ =>
      rw [bindCounted_of_other fun h => nomatch hs.symm.trans h.2]
      rfl
  · rw [if_neg hp, if_pos hp, bindCounted_of_other fun h => hp h.1]
    rfl

/-- A pairing turn begins, whole (R34). -/
theorem startTurn_eq {s : State} (h : s.pair.state ≠ .idle) :
    startTurn s = { s with
      pair := bindCounted s.pair
      air := { s.air with
        use := .turn s.pair.state s.pair.endPending.isSome, sent := some (turnFrame s.pair) } } :=
  sendTurnFrame_eq (s := setUse _ s) h

/-! ### The start of slot 9 (R54, R71) -/

/-- A slot begun has its use and its frame still to come (R54, R55). -/
theorem beginSlot_air_eq (n : Fin 10) (s : State) : (beginSlot n s).air = slotBegun n .idle none s.air := by
  rw [beginSlot_air, passUntil_spec]
  rfl

/-- The next candidate is the same once a slot has begun. -/
theorem nextCandidate_beginSlot (n : Fin 10) (s : State) : nextCandidate (beginSlot n s) = nextCandidate s := by
  simp only [nextCandidate, beginSlot_slots, beginSlot_air_eq]

/-- After slot 8 slot 9 starts (R54). -/
theorem exec_slotStart_of_eight {s : State} (h : s.air.slot = some 8) :
    exec .slotStart s = .next (startSlotNine (beginSlot 9 s)) := by
  have hslot : slotStart s = startSlotNine (beginSlot 9 s) := by
    simp only [slotStart, nextSlot, h]
    rfl
  exact congrArg _ hslot

section
variable {s : State} (n : Fin 10)

/-- Slot 9 while pairing is a turn, and every candidate left is denied (R34, R73). -/
theorem startSlotNine_of_pairing (hs : s.pair.state ≠ .idle) :
    startSlotNine (beginSlot n s) = forEachSlot (denyRetry 2) { s with
      pair := bindCounted s.pair
      air := slotBegun n (.turn s.pair.state s.pair.endPending.isSome) (some (turnFrame s.pair)) s.air } := by
  refine (if_neg hs).trans (congrArg _ ?_)
  rw [startTurn_eq (s := beginSlot n s) hs, beginSlot_air_eq]
  rfl

/-- Slot 9 in IDLE without a candidate is put to no use (R71). -/
theorem startSlotNine_of_no_candidate (hs : s.pair.state = .idle)
    (hnone : ∀ k : SlotId, s.slots[k].retryCandidate = false) :
    startSlotNine (beginSlot n s) = { s with air := slotBegun n .idle none s.air } := by
  refine (if_pos hs).trans ?_
  rw [grantSpare_of_none (s := beginSlot n s) (nextCandidate_of_none hnone), denials_of_none (s := beginSlot n s) 1 hnone,
    ← beginSlot_air_eq]
  rfl

/-- Slot 9 in IDLE is granted to the next candidate, and the others are denied (R71 to R73). -/
theorem startSlotNine_of_candidate {k : SlotId} (hs : s.pair.state = .idle) (hk : nextCandidate s = some k) :
    startSlotNine (beginSlot n s) = forEachSlot (denyRetry 1) { s with
      slots := s.slots.set k { s.slots[k] with retryCandidate := false }
      air := { slotBegun n (.spare k) (some ⟨(slotAddress k s).getD 0, Config.partAddress, .poll k⟩) s.air with
        lastGranted := k } } := by
  refine (if_pos hs).trans (congrArg _ ?_)
  rw [grantSpare_of_some ((nextCandidate_beginSlot n s).trans hk), beginSlot_air_eq]
  rfl

end

/-! ### What every start of slot 9 leaves and clears (R54, R71, R73) -/

/-- What the start of slot `n`, run as slot 9 is, does whatever its use: the slot has begun, no candidate is left, and of the
streams and their queues nothing but candidates and denials has changed. -/
structure SlotNineBegun (n : Fin 10) (s t : State) : Prop where
  beside : besideAirStands s t
  stores : t.stores = s.stores
  air : t.air = { slotBegun n t.air.use t.air.sent s.air with lastGranted := t.air.lastGranted }
  slots : ∀ k : SlotId, t.slots[k] = { s.slots[k] with retryCandidate := false }
  queues : ∀ k : SlotId, t.queues[k]
    = { s.queues[k] with stats := { s.queues[k].stats with retryDenials := t.queues[k].stats.retryDenials } }

/-- A slot denied is a candidate no more (R73). -/
theorem denials_slot (code : Byte) (k : SlotId) (s : State) :
    (forEachSlot (denyRetry code) s).slots[k] = { s.slots[k] with retryCandidate := false } :=
  congrArg Prod.fst (denials_retryAt code k s)

/-- A denial counts in the statistics of its stream, and changes nothing else of its queue (R73). -/
theorem denials_queue (code : Byte) (k : SlotId) (s : State) :
    (forEachSlot (denyRetry code) s).queues[k] = { s.queues[k] with
      stats := { s.queues[k].stats with
        retryDenials := if s.slots[k].retryCandidate then saturatingSucc max32 s.queues[k].stats.retryDenials
          else s.queues[k].stats.retryDenials } } :=
  congrArg Prod.snd (denials_retryAt code k s)

/-- The denials complete the start of slot 9, once it has begun with its use. -/
theorem slotNineBegun_of_denials (code : Byte) (n : Fin 10) (s : State) (p : PairContext)
    {slots : Vector StreamSlot 4} {air : AirState}
    (hair : air = { slotBegun n air.use air.sent s.air with lastGranted := air.lastGranted })
    (hslots : ∀ k : SlotId, { slots[k] with retryCandidate := false } = { s.slots[k] with retryCandidate := false }) :
    SlotNineBegun n s (forEachSlot (denyRetry code) { s with pair := p, slots := slots, air := air }) := by
  refine ⟨?_, ?_, ?_, fun k => (denials_slot code k _).trans (hslots k), fun k => ?_⟩
  · rw [denials_fields]
    exact ⟨rfl, rfl, rfl, rfl, rfl, rfl, rfl, rfl, rfl, rfl, rfl⟩
  · rw [denials_fields]
  · rw [denials_air]
    exact hair
  · rw [denials_queue]

/-- Once slot `k` has been granted, the candidates left are the others (R71, R73). -/
theorem granted_retryCandidate (j k : SlotId) (slots : Vector StreamSlot 4) :
    (slots.set k { slots[k] with retryCandidate := false })[j].retryCandidate
      = (slots[j].retryCandidate && j != k) := by
  by_cases hj : j = k
  · subst hj
    rw [set_get, bne_self_eq_false, Bool.and_false]
  · rw [set_get_other _ hj, bne_iff_ne.2 hj, Bool.and_true]

/-- The grant to slot `k` changes nothing of the slots but a candidate (R71). -/
theorem granted_slot (j k : SlotId) (slots : Vector StreamSlot 4) :
    { (slots.set k { slots[k] with retryCandidate := false })[j] with retryCandidate := false }
      = { slots[j] with retryCandidate := false } := by
  by_cases hj : j = k
  · subst hj
    rw [set_get]
  · rw [set_get_other _ hj]

/-! ### The three uses of slot 9 (R34, R71 to R73) -/

section
variable (n : Fin 10) {s t : State}

/-- Slot 9 while pairing (R34, R71, R73). -/
theorem slotNine_of_pairing (hs : s.pair.state ≠ .idle) (ht : t = startSlotNine (beginSlot n s)) :
    SlotNineBegun n s t ∧ t.air.use = .turn s.pair.state s.pair.endPending.isSome ∧ t.air.lastGranted = s.air.lastGranted
      ∧ (∀ k : SlotId, t.queues[k].stats.retryDenials
        = if s.slots[k].retryCandidate then saturatingSucc max32 s.queues[k].stats.retryDenials
          else s.queues[k].stats.retryDenials)
      ∧ denialsTold 2 (fun k => s.slots[k].retryCandidate) s t
      ∧ t.pair = bindCounted s.pair ∧ t.air.sent = some (turnFrame s.pair) := by
  rw [startSlotNine_of_pairing n hs] at ht
  subst ht
  refine ⟨slotNineBegun_of_denials 2 n s _ rfl fun _ => rfl, ?_, ?_, fun k => ?_,
    denialsTold_of_toldDenials (denials_notices 2 _), denials_pair 2 _, ?_⟩
  · rw [denials_air]
  · rw [denials_air]
  · rw [denials_queue]
  · rw [denials_air]

/-- Slot 9 in IDLE without a candidate (R71, R73). -/
theorem slotNine_of_no_candidate (hs : s.pair.state = .idle) (hnone : ∀ k : SlotId, s.slots[k].retryCandidate = false)
    (ht : t = startSlotNine (beginSlot n s)) :
    SlotNineBegun n s t ∧ t = { s with air := slotBegun n .idle none s.air } := by
  rw [startSlotNine_of_no_candidate n hs hnone] at ht
  refine ⟨?_, ht⟩
  rw [ht, ← denials_of_none (s := { s with air := slotBegun n .idle none s.air }) 1 hnone]
  exact slotNineBegun_of_denials 1 n s s.pair rfl fun _ => rfl

/-- Slot 9 in IDLE granted to the next candidate (R71 to R73). -/
theorem slotNine_of_candidate {k : SlotId} (hs : s.pair.state = .idle) (hk : nextCandidate s = some k)
    (ht : t = startSlotNine (beginSlot n s)) :
    SlotNineBegun n s t ∧ t.pair = s.pair ∧ t.air.use = .spare k ∧ t.air.lastGranted = k
      ∧ t.air.sent = some ⟨(slotAddress k s).getD 0, Config.partAddress, .poll k⟩
      ∧ (∀ j : SlotId, t.queues[j].stats.retryDenials
        = if s.slots[j].retryCandidate = true ∧ j ≠ k then saturatingSucc max32 s.queues[j].stats.retryDenials
          else s.queues[j].stats.retryDenials)
      ∧ denialsTold 1 (fun j => s.slots[j].retryCandidate && j != k) s t := by
  rw [startSlotNine_of_candidate n hs hk] at ht
  subst ht
  have hleft := fun j => granted_retryCandidate j k s.slots
  refine ⟨slotNineBegun_of_denials 1 n s s.pair rfl fun j => granted_slot j k s.slots, denials_pair 1 _, ?_, ?_, ?_,
    fun j => ?_, denialsTold_of_toldDenials ?_⟩
  · rw [denials_air]
  · rw [denials_air]
  · rw [denials_air]
  · rw [denials_queue]
    simp only [hleft, Bool.and_eq_true, bne_iff_ne]
  · rw [denials_notices]
    simp only [hleft]

end

end Sys2Proof.Machine

open Sys2Proof Sys2Proof.Machine

/-- Settles O31: slot 9 by its three uses, a turn, none, or a grant, each followed by the denial of the candidates left. -/
theorem slotNineServesPairingOrRetry : Obligations.SlotNineServesPairingOrRetry := by
  refine ⟨fun s h9 => ?_, fun partner s h9 hs hp => ?_⟩
  · have hslot := exec_slotStart_of_eight h9
    by_cases hs : s.pair.state = .idle
    · by_cases hc : ∃ k : SlotId, s.slots[k].retryCandidate = true
      · obtain ⟨k, hnext, hk, hfirst⟩ := nextCandidate_of_some hc
        obtain ⟨⟨hbeside, hstores, hair, hslots, hqueues⟩, hpair, huse, hlast, hsent, hcounts, htold⟩ :=
          slotNine_of_candidate 9 hs hnext rfl
        refine ⟨_, hslot, hbeside, hstores, hair, hslots, hqueues, fun _ => hpair, fun _ hnone => ?_,
          fun hn => absurd hs hn, fun _ _ => ⟨k, hk, huse, hlast, hfirst, ⟨_, hsent, fun i held hi hheld => ?_⟩, hcounts,
            htold⟩⟩
        · exact absurd hk (Bool.eq_false_iff.1 (hnone k))
        · rw [slotAddress_of_contents hi hheld]
          rfl
      · have hnone : ∀ k : SlotId, s.slots[k].retryCandidate = false := fun k => Bool.eq_false_iff.2 fun hk => hc ⟨k, hk⟩
        obtain ⟨⟨hbeside, hstores, hair, hslots, hqueues⟩, ht⟩ := slotNine_of_no_candidate 9 hs hnone rfl
        exact ⟨_, hslot, hbeside, hstores, hair, hslots, hqueues, fun _ => by rw [ht],
          fun _ _ => by rw [ht]; exact ⟨rfl, rfl, rfl, rfl, rfl⟩, fun hn => absurd hs hn, fun _ hk => absurd hk hc⟩
    · obtain ⟨⟨hbeside, hstores, hair, hslots, hqueues⟩, huse, hlast, hcounts, htold, -, -⟩ :=
        slotNine_of_pairing 9 hs rfl
      exact ⟨_, hslot, hbeside, hstores, hair, hslots, hqueues, fun hi => absurd hi hs, fun hi => absurd hi hs,
        fun _ => ⟨huse, hlast, hcounts, htold⟩, fun hi => absurd hi hs⟩
  · obtain ⟨-, -, -, -, -, hpair, hsent⟩ := slotNine_of_pairing 9 hs rfl
    subst hp
    exact ⟨_, exec_slotStart_of_eight h9, hpair, hsent⟩
end

section
/-! A step of the machine (log entry 1). -/

open Sys2Proof Sys2Proof.Machine

/-- Settles O1, by whether a command waits and, where none does, by whether an event of the part's own is due. -/
theorem stepTakesFrontOrRunsByItself : Obligations.StepTakesFrontOrRunsByItself := by
  refine ⟨fun c rest s hq => ?_, fun s hq => ?_⟩
  · rw [step, hq]
    rfl
  · have hidle : step s = idleStep s := by rw [step, hq]
    refine ⟨fun c hc => ?_, fun hn => ?_⟩
    · rw [hidle, idleStep, hc]
    · rw [hidle, idleStep, hn]
      rfl
end

section
/-! The ends of joins, leaves and links, and EAR_LEAVE (R59 to R69). -/

namespace Sys2Proof.Machine

open Sys2Proof

/-! ### The end of a stream (R66, R93, R101, R139) -/

/-- A removal that switches no voice's winner tells nothing (R139). -/
theorem removeMember_notices_of_none {k : SlotId} {s : State} (h : ∀ v : VoiceId, ¬switchesWinner k s.voices[v]) :
    (removeMember k s).notices = s.notices := by
  rw [removeMember, removeFromVoice_notices, removeFromVoice_voices, if_neg (h 1), removeFromVoice_notices, if_neg (h 0)]

/-- A slot's leaving of STREAMING that switches no voice's winner tells nothing (R66, R139). -/
theorem leaveStreaming_notices_of_none {k : SlotId} {s : State} (h : ∀ v : VoiceId, ¬switchesWinner k s.voices[v]) :
    (leaveStreaming k s).notices = s.notices := removeMember_notices_of_none h

/-- A slot's leaving of STREAMING ends its stream as the statements say (R66). -/
theorem leaveStreaming_ended (k : SlotId) (s : State) : streamEnded k s (leaveStreaming k s) := by
  obtain ⟨hqueues, hconvs, hstores, -, -, hvoices, -⟩ := leaveStreaming_spec k s
  refine ⟨hqueues.trans ?_, hconvs, hstores, hvoices, fun ⟨v, hv⟩ => ?_⟩
  · rw [RxQueue.flush, bumpBy]
  · rw [leaveStreaming_record]
    match v with
    | 0 => exact switchTold_keeps k 1 _ (switchTold_of_switches 0 _ hv)
    | 1 => exact switchTold_of_switches 1 _ hv

/-! ### The freeing of a slot (R59, R61, R68, R69) -/

/-- The slot freed has the same roster after it, where the roster and the slot's entry are the same before it (R59). -/
theorem slotFreed_roster_congr {k : SlotId} {s u : State} (hr : u.roster = s.roster)
    (hi : u.slots[k].rosterIndex = s.slots[k].rosterIndex) : (slotFreed k u).roster = (slotFreed k s).roster := by
  simp only [hr, hi]

/-- The end of a join that does not complete a closing frees the slot and is told (R61, R62, R67). -/
theorem endJoin_of_not_completes {k : SlotId} {s : State} (result : Byte) (h : ¬completesClosing k s) :
    endJoin result k s = raiseAt Source.joinResult result k (slotFreed k s) := by
  rw [endJoin, freeSlot_of_not_completes h, joinResult]

/-- A slot's leaving of STREAMING does not complete a closing that its freeing would not (R14). -/
theorem not_completes_of_leaveStreaming {k : SlotId} {s : State} (h : ¬completesClosing k s) :
    ¬completesClosing k (leaveStreaming k s) := by
  obtain ⟨-, -, -, hslots, -, -, hcall, -⟩ := leaveStreaming_spec k s
  rintro ⟨hclosing, hothers⟩
  refine h ⟨hcall ▸ hclosing, fun j hj => ?_⟩
  have hj' := hothers j hj
  rwa [hslots, set_get_other _ hj] at hj'

/-- The link loss of a STREAMING slot waits when its supervision count is 50 (R69). -/
theorem linkLossDue_of_streaming {x : StreamSlot} (hs : x.state = .streaming) (h50 : 50 ≤ x.supervision) :
    linkLossDue x = true := by
  simp [linkLossDue, hs, h50]

/-- The link loss of a STREAMING slot ends its stream, frees it and is told (R69). -/
theorem linkLoss_of_streaming {k : SlotId} {s : State} (hs : s.slots[k].state = .streaming)
    (h50 : 50 ≤ s.slots[k].supervision) (hc : ¬completesClosing k s) :
    linkLoss k s = raiseAt Source.linkLoss 1 k (slotFreed k (leaveStreaming k s)) := by
  rw [linkLoss, if_pos (linkLossDue_of_streaming hs h50), endStream, if_pos hs, freeSlot_of_not_completes (not_completes_of_leaveStreaming hc)]

/-- No link loss is due in FREE and JOINING, nor below a supervision count of 50 (R69). -/
theorem linkLossDue_eq_false {x : StreamSlot} (h : x.state = .free ∨ x.state = .joining ∨ x.supervision < 50) :
    linkLossDue x = false := by
  cases hs : x.state <;> simp [linkLossDue, hs] at h ⊢ <;> omega

/-! ### LEAVE_ACK and EAR_LEAVE (R56, R67, R68) -/

/-- A LEAVE_ACK is taken for a LEAVING slot from its earbud, in the uplink slot that began so (R56, R68). -/
theorem leaveAckFor_iff (h : AirHeader) (k : SlotId) (s : State) :
    leaveAckFor h s = some k ↔ s.air.use = .uplink k .leaving ∧ s.slots[k].state = .leaving ∧ fromEarbud k h s := by
  unfold leaveAckFor
  split
  · next j hu =>
    rw [Option.ite_none_right_eq_some, Option.some.injEq, fromSlotEarbud_iff]
    constructor
    · rintro ⟨ht, rfl⟩
      exact ⟨hu, ht⟩
    · rintro ⟨hk, ht⟩
      cases hu.symm.trans hk
      exact ⟨ht, rfl⟩
  · next hn => exact ⟨nofun, fun h => absurd h.1 (hn k)⟩

/-- A LEAVE_ACK that no slot takes is ignored (R56). -/
theorem leaveAck_of_not_taken {h : AirHeader} {s : State}
    (hn : ∀ k : SlotId, ¬(s.air.use = .uplink k .leaving ∧ s.slots[k].state = .leaving ∧ fromEarbud k h s)) :
    leaveAck h s = s := by
  unfold leaveAck
  split
  · next k hk => exact absurd ((leaveAckFor_iff h k s).1 hk) (hn k)
  · rfl

section
variable {slot : Byte} {k : SlotId} {s : State}

/-- EAR_LEAVE of a byte that is no index is refused (R67). -/
theorem earLeave_of_bad_index (hk : indexOfByte 4 slot = none) : earLeave [slot] s = refuse .badArg s := by
  simp only [earLeave, hk]

/-- EAR_LEAVE of a FREE slot is refused (R67). -/
theorem earLeave_of_free (hk : indexOfByte 4 slot = some k) (h : s.slots[k].state = .free) :
    earLeave [slot] s = refuse .noEntry s := by
  simp only [earLeave, hk, h]

/-- EAR_LEAVE of a JOINING slot ends the join (R67). -/
theorem earLeave_of_joining (hk : indexOfByte 4 slot = some k) (h : s.slots[k].state = .joining) :
    earLeave [slot] s = answerOk [] (endJoin 6 k s) := by
  simp only [earLeave, hk, h]

/-- EAR_LEAVE of a STREAMING slot begins its leaving (R67). -/
theorem earLeave_of_streaming (hk : indexOfByte 4 slot = some k) (h : s.slots[k].state = .streaming) :
    earLeave [slot] s = answerOk [] (enterLeaving k s) := by
  simp only [earLeave, hk, h]

/-- EAR_LEAVE of a LEAVING slot has no effect (R67). -/
theorem earLeave_of_leaving (hk : indexOfByte 4 slot = some k) (h : s.slots[k].state = .leaving) :
    earLeave [slot] s = answerOk [] s := by
  simp only [earLeave, hk, h]

end

end Sys2Proof.Machine

open Sys2Proof Sys2Proof.Machine

/-- Settles O23, by the slot's state; a stream ends beside the control port, where the request goes and the reply comes. -/
theorem earLeaveFollowsTable : Obligations.EarLeaveFollowsTable := by
  refine fun tag s => ⟨fun index hi h => ?_, fun k h => ?_⟩
  · exact congrArg _ (takeRequest_refused h (earLeave_of_bad_index (indexOfByte_of_le hi)))
  · have hk := indexOfByte_ofNat 4 k (by decide)
    refine ⟨fun hs => ?_, fun hs => ?_, fun hs hc => ?_, fun hs => ?_⟩
    · exact congrArg _ (takeRequest_refused h (earLeave_of_free (s := dropRequest s) hk hs))
    · exact congrArg _ (takeRequest_answered h (earLeave_of_leaving (s := dropRequest s) hk hs))
    · refine congrArg _ (takeRequest_answered h ((earLeave_of_joining (s := dropRequest s) hk hs).trans ?_))
      exact congrArg _ (endJoin_of_not_completes (s := dropRequest s) 6 hc)
    · have he := enterLeaving_fields k (dropRequest s)
      obtain ⟨-, -, -, -, hroster, -, hrest⟩ := leaveStreaming_spec k (dropRequest s)
      have hended := leaveStreaming_ended k (dropRequest s)
      refine ⟨{ enterLeaving k (dropRequest s) with control := s.control }, ?_, ?_, hended, fun hn => ?_, ?_, ?_⟩
      · have hcontrol := eq_dropRequest_of_control (e := enterLeaving k (dropRequest s)) (s := s) (by rw [he])
        exact congrArg _ (takeRequest_answered h
          ((earLeave_of_streaming (s := dropRequest s) hk hs).trans (congrArg _ hcontrol)))
      · rw [he]; rfl
      · rw [he]
        exact leaveStreaming_notices_of_none (s := dropRequest s) hn
      · rw [he]; rfl
      · rw [he]
        exact ⟨rfl, rfl, rfl, rfl, rfl, rfl, rfl, rfl, rfl, rfl⟩

/-- Settles O26: each event by whether it is due, and the freeing of a slot that completes no closing is its becoming FREE. -/
theorem joinsLeavesAndLinksEnd : Obligations.JoinsLeavesAndLinksEnd := by
  refine ⟨fun h k s hc => ⟨fun hs hn => ?_, fun hs hn => ?_, fun hs hu he => ?_⟩, fun k s => ⟨fun hn => ?_, fun hn => ?_,
    fun hn => ?_⟩, fun h s hn => congrArg _ (leaveAck_of_not_taken hn), fun k s h50 hc => ⟨fun hs hn => ?_, fun hs => ?_⟩⟩
  · exact congrArg _ ((if_pos ⟨hs, hn⟩).trans (endJoin_of_not_completes 5 hc))
  · exact congrArg _ ((leaveUnanswered_of_due hs hn).trans (freeSlot_of_not_completes hc))
  · exact congrArg _ ((leaveAck_of_taken hs hu he).trans (freeSlot_of_not_completes hc))
  · exact congrArg _ (if_neg fun hd => hn.elim (· hd.1) (Nat.not_lt.2 hd.2))
  · exact congrArg _ (if_neg fun hd => hn.elim (· hd.1) (Nat.not_lt.2 hd.2))
  · exact congrArg _ (if_neg (Bool.eq_false_iff.1 (linkLossDue_eq_false hn)))
  · exact congrArg _ ((linkLoss_of_leaving hs hn h50).trans (congrArg _ (freeSlot_of_not_completes hc)))
  · obtain ⟨-, -, -, hslots, hroster, -, hrest⟩ := leaveStreaming_spec k s
    obtain ⟨hqueues, hconvs, hstores, hvoices, htold⟩ := leaveStreaming_ended k s
    have hrecord := Notices.occur_record Source.linkLoss (some k.val) 1 (BitVec.ofNat 32 k.val) (leaveStreaming k s).notices
    refine ⟨raiseAt Source.linkLoss 1 k (slotFreed k (leaveStreaming k s)),
      congrArg Host.Outcome.next (linkLoss_of_streaming hs h50 hc), ?_, slotFreed_roster_congr hroster ?_,
      ⟨hqueues, hconvs, hstores, hvoices, fun hw => ?_⟩, congrArg SourceRecord.asserted hrecord,
      congrArg SourceRecord.latestCode hrecord, congrArg SourceRecord.latestValue hrecord, hrest⟩
    · show (leaveStreaming k s).slots.set k _ = s.slots.set k _
      rw [hslots, Vector.set_set]
    · rw [hslots, set_get]
    · have hother := Notices.occur_record_other (src := Source.linkLoss) (other := Source.voiceSwitch) (by decide)
        (some k.val) 1 (BitVec.ofNat 32 k.val) (leaveStreaming k s).notices
      exact ⟨(congrArg SourceRecord.asserted hother).trans (htold hw).1,
        (congrArg SourceRecord.latestCode hother).trans (htold hw).2⟩
end

section
/-! JOIN_ACK and the entry to STREAMING (R56, R62 to R64, R80, R101, R138). -/

namespace Sys2Proof.Machine

open Sys2Proof

/-! ### The binding to a voice (R138) -/

/-- A binding reaches the voices alone, and depends on them alone (R138). -/
theorem bindVoice_eq {s u : State} (k : SlotId) (d : Declared) (h : u.voices = s.voices) :
    bindVoice k d u = { u with voices := (bindVoice k d s).voices } := by
  unfold bindVoice
  rw [h]
  split
  · split
    · rw [State.setVoice, State.setVoice, h]
    · rw [← h]
  · rw [← h]

/-- A voice that binds a slot has it as a member (R138). -/
theorem hasMember_bindMember (p : Place) (k : SlotId) (v : Voice) : (v.bindMember p k).hasMember k = true := by
  unfold Voice.bindMember Voice.hasMember
  cases p <;> split <;> simp [Voice.addMember]

/-- A stream finds no voice exactly when it has a microphone and, being in no voice before, is in none after its binding (R138). -/
theorem findsNoVoice_iff {k : SlotId} (d : Declared) {s : State} (hk : ∀ v : VoiceId, s.voices[v].hasMember k = false) :
    findsNoVoice d s = true
      ↔ d.microphone = true ∧ ∀ v : VoiceId, (bindVoice k d s).voices[v].hasMember k = false := by
  rw [findsNoVoice, Bool.and_eq_true, Option.isNone_iff_eq_none]
  refine and_congr_right fun hd => ?_
  rw [bindVoice, if_pos hd]
  cases hv : voiceFor d.place s.voices with
  | none => exact iff_of_true rfl hk
  | some i =>
    refine iff_of_false nofun fun hn => ?_
    have hi := hn i
    rw [State.setVoice_voices, set_get, hasMember_bindMember] at hi
    exact nomatch hi

/-- No slot that is not STREAMING is a member of a voice (R139, R140). -/
theorem hasMember_eq_false_of_voiceLaw {k : SlotId} {s : State} (h : voiceLaw s) (hs : s.slots[k].state ≠ .streaming)
    (v : VoiceId) : s.voices[v].hasMember k = false :=
  Bool.eq_false_iff.2 fun hm => hs (h.2.2 v k hm)

/-! ### The entry to STREAMING (R63, R80, R101) -/

/-- The state of a slot that has entered STREAMING, whole (R63, R64, R80, R101, R138). -/
theorem enterStreaming_eq (k : SlotId) (d : Declared) (s : State) :
    enterStreaming k d s = { s with
      slots := s.slots.set k { StreamSlot.reset with state := .streaming, rosterIndex := s.slots[k].rosterIndex }
      queues := s.queues.set k s.queues[k].begin
      convs := s.convs.set k (Converter.starting d.clockClass.limit s.call.rate.samples)
      stores := s.stores.set k []
      voices := (bindVoice k d s).voices
      notices := s.notices.occur Source.joinResult (some k.val) (if findsNoVoice d s then 2 else 1)
        (BitVec.ofNat 32 k.val) } := by
  refine (congrArg (joinResult _ k) (bindVoice_eq (s := s) k d ?_)).trans ?_ <;> rfl

/-! ### JOIN_ACK (R56, R62) -/

/-- A JOIN_ACK is taken for a JOINING slot from its earbud, in the uplink slot that began so (R56, R62). -/
theorem joinAckFor_iff (h : AirHeader) (k : SlotId) (s : State) :
    joinAckFor h s = some k ↔ s.air.use = .uplink k .joining ∧ s.slots[k].state = .joining ∧ fromEarbud k h s := by
  unfold joinAckFor
  split
  · next j hu =>
    rw [Option.ite_none_right_eq_some, Option.some.injEq, fromSlotEarbud_iff]
    constructor
    · rintro ⟨ht, rfl⟩
      exact ⟨hu, ht⟩
    · rintro ⟨hk, ht⟩
      cases hu.symm.trans hk
      exact ⟨ht, rfl⟩
  · next hn => exact ⟨nofun, fun h => absurd h.1 (hn k)⟩

/-- A JOIN_ACK that no slot takes is ignored (R56). -/
theorem joinAck_of_not_taken {h : AirHeader} (accepts : Bool) (proof : Key) {s : State}
    (hn : ∀ k : SlotId, ¬(s.air.use = .uplink k .joining ∧ s.slots[k].state = .joining ∧ fromEarbud k h s)) :
    joinAck h accepts proof s = s := by
  unfold joinAck
  split
  · next k hk => exact absurd ((joinAckFor_iff h k s).1 hk) (hn k)
  · rfl

section
variable {h : AirHeader} {k : SlotId} {held : Contents} {s : State} (proof : Key) (hk : joinAckFor h s = some k)
include hk

/-- A refusing JOIN_ACK ends the join (R62). -/
theorem joinAck_of_refused : joinAck h false proof s = endJoin 3 k s := by
  rw [joinAck, hk]
  rfl

/-- An accepting JOIN_ACK goes by its proof (R62). -/
theorem joinAck_of_accepted (hc : slotContents k s = some held) :
    joinAck h true proof s = if Config.proofPasses held.linkKey (s.slots[k].challenge.getD 0) proof
      then enterStreaming k held.declared s else endJoin 4 k s := by
  simp only [joinAck, hk, answerJoin, if_true, hc]
  rfl

end

end Sys2Proof.Machine

open Sys2Proof Sys2Proof.Machine

/-- Settles O24: a JOIN_ACK that is taken by its answer and its proof, and one that is not. -/
theorem joinAckEndsJoin : Obligations.JoinAckEndsJoin := by
  refine ⟨fun h proof k i held s hu hs hc hv hdest hi hheld haddr => ?_,
    fun h accepts proof s hn => congrArg _ (joinAck_of_not_taken accepts proof hn)⟩
  have hk := (joinAckFor_iff h k s).2 ⟨hu, hs, hdest, i, held, hi, hheld, haddr⟩
  have hcontents : slotContents k s = some held := by simp only [slotContents, hi, hheld]
  have haccepted := joinAck_of_accepted proof hk hcontents
  refine ⟨congrArg _ ((joinAck_of_refused proof hk).trans (endJoin_of_not_completes 3 hc)), _, rfl, ?_⟩
  split
  · next hp =>
    rw [if_pos hp, enterStreaming_eq] at haccepted
    have hnone := findsNoVoice_iff held.declared
      (hasMember_eq_false_of_voiceLaw (k := k) hv (by rw [hs]; decide))
    have hrecord := Notices.occur_record Source.joinResult (some k.val) (if findsNoVoice held.declared s then 2 else 1)
      (BitVec.ofNat 32 k.val) s.notices
    rw [haccepted]
    refine ⟨by rw [hi], rfl, rfl, rfl, rfl, rfl, ⟨rfl, rfl, rfl, rfl, rfl, rfl, rfl, rfl, rfl, rfl⟩,
      congrArg SourceRecord.latestValue hrecord, (congrArg SourceRecord.latestCode hrecord).trans ?_⟩
    exact if_congr hnone rfl rfl
  · next hp =>
    rw [if_neg hp] at haccepted
    exact haccepted.trans (endJoin_of_not_completes 4 hc)
end

section
/-! UP: the hearing of a slot and the judgement of an arrival (R56, R57, R65, R72, R82 to R86). -/

namespace Sys2Proof.Machine

open Sys2Proof

/-! ### The taking of an UP (R56, R57, R65, R72) -/

/-- An UP is well formed where R57 says. -/
theorem upWellFormed_iff (f : UpFrame) (s : State) : upWellFormed s.blockSamples f = true ↔ upFits f s := by
  unfold upWellFormed upFits
  cases f.samples <;> simp [State.blockSamples]

/-- The use of the slot in progress in which an UP of slot `k` is taken, retried or not (R54, R72). -/
abbrev upUse (k : SlotId) (retried : Bool) : SlotUse := if retried then .spare k else .uplink k .streaming

/-- A well-formed UP is taken for a STREAMING slot from its earbud, in the uplink slot that began so or in the spare slot granted to
it (R54, R56, R57, R72). -/
theorem upFor_iff (h : AirHeader) (f : UpFrame) (k : SlotId) (retried : Bool) (s : State) :
    upFor h f s = some (k, retried)
      ↔ s.air.use = upUse k retried ∧ s.slots[k].state = .streaming ∧ fromEarbud k h s ∧ upFits f s := by
  have htaken : ∀ (j : SlotId) (r : Bool), s.air.use = upUse j r →
      ((if s.slots[j].state = .streaming ∧ fromSlotEarbud j h s ∧ upWellFormed s.blockSamples f then some (j, r) else none)
          = some (k, retried)
        ↔ s.air.use = upUse k retried ∧ s.slots[k].state = .streaming ∧ fromEarbud k h s ∧ upFits f s) := by
    intro j r hj
    rw [Option.ite_none_right_eq_some, Option.some.injEq, fromSlotEarbud_iff, upWellFormed_iff, Prod.mk.injEq]
    constructor
    · rintro ⟨ht, rfl, rfl⟩
      exact ⟨hj, ht⟩
    · rintro ⟨hk, ht⟩
      have hsame : upUse j r = upUse k retried := hj.symm.trans hk
      cases r <;> cases retried <;> cases hsame <;> exact ⟨ht, rfl, rfl⟩
  unfold upFor
  split
  · next j hu => exact htaken j false hu
  · next j hu => exact htaken j true hu
  · next hup hspare =>
    refine iff_of_false nofun fun h => ?_
    cases retried with
    | false => exact hup k h.1
    | true => exact hspare k h.1

/-- An UP that no slot takes is ignored (R56, R57). -/
theorem takeUp_of_not_taken {h : AirHeader} {f : UpFrame} {s : State}
    (hn : ∀ (k : SlotId) (retried : Bool), ¬(s.air.use = upUse k retried ∧ s.slots[k].state = .streaming ∧ fromEarbud k h s
      ∧ upFits f s)) : takeUp h f s = s := by
  unfold takeUp
  split
  · next k retried hk => exact absurd ((upFor_iff h f k retried s).1 hk) (hn k retried)
  · rfl

/-- The hearing of a slot is what the statements say (R65). -/
theorem noteHeard_eq (k : SlotId) (f : UpFrame) (s : State) : noteHeard k f.downAck s = upHeard k f s := by
  rw [noteHeard, upHeard]
  cases f.downAck <;> rfl

/-- An UP that is taken is heard, and its arrival judged (R65, R82). -/
theorem takeUp_of_taken {h : AirHeader} {f : UpFrame} {k : SlotId} {retried : Bool} {s : State}
    (hk : upFor h f s = some (k, retried)) :
    takeUp h f s = takeArrival k (entryOf f s.air.anchor retried) (upHeard k f s) := by
  simp only [takeUp, hk, noteHeard_eq]

/-! ### The slot and the queue of an UP that is heard (R65) -/

/-- A slot heard. -/
theorem upHeard_slot (k : SlotId) (f : UpFrame) (s : State) :
    (upHeard k f s).slots[k] = { s.slots[k] with heard := true } := set_get _ k _

/-- The queue of a slot heard: a down miss is counted when its down-ack is no. -/
theorem upHeard_queue (k : SlotId) (f : UpFrame) (s : State) :
    (upHeard k f s).queues[k] = { s.queues[k] with
      stats := { s.queues[k].stats with
        downMisses := if f.downAck then s.queues[k].stats.downMisses
          else saturatingSucc max32 s.queues[k].stats.downMisses } } := by
  unfold upHeard
  cases f.downAck with
  | false => exact set_get _ k _
  | true => rfl

/-! ### The judgement of an arrival (R82 to R84) -/

/-- An arrival is a duplicate when it is not newer than the last accepted or than the oldest entry held (R83). -/
theorem isDuplicate_iff (last : Option Sequence) (q : RxQueue) (sequence : Sequence) :
    isDuplicate last q sequence = true
      ↔ ∃ a : Sequence, (last = some a ∨ q.entries.head?.map QueueEntry.sequence = some a) ∧ newer sequence a = false := by
  simp only [isDuplicate, Bool.or_eq_true, Option.any_eq_true, Bool.not_eq_true', or_and_right, exists_or, Option.map_eq_some_iff]
  refine or_congr_right ⟨fun ⟨e, he, hn⟩ => ⟨_, ⟨e, he, rfl⟩, hn⟩, ?_⟩
  rintro ⟨_, ⟨e, he, rfl⟩, hn⟩
  exact ⟨e, he, hn⟩

/-- An arrival is no duplicate when it is newer than both (R83). -/
theorem isDuplicate_eq_false {last : Option Sequence} {q : RxQueue} {sequence : Sequence}
    (h : ∀ a : Sequence, last = some a ∨ q.entries.head?.map QueueEntry.sequence = some a → newer sequence a = true) :
    isDuplicate last q sequence = false := by
  refine Bool.eq_false_iff.2 fun hd => ?_
  obtain ⟨a, ha, hn⟩ := (isDuplicate_iff last q sequence).1 hd
  exact nomatch hn.symm.trans (h a ha)

/-- An arrival is late when the claimed edge is in force and the stamp lies before it (R84). -/
theorem isLate_iff (c : Converter) (stamp : Count32) :
    isLate c stamp = true ↔ c.edgeState ≠ .notInForce ∧ (stamp - c.claimedEdge).toInt < 0 := by
  rw [isLate, Bool.and_eq_true, bne_iff_ne, decide_eq_true_iff, stampGap]

section
variable {k : SlotId} {e : QueueEntry} {s : State}

/-- A stopped queue ignores an arrival (R82). -/
theorem takeArrival_of_stopped (h : s.queues[k].state = .stopped) : takeArrival k e s = s := if_pos h

variable (hs : s.queues[k].state ≠ .stopped)
include hs

/-- A duplicate is discarded (R83). -/
theorem takeArrival_of_duplicate (hd : isDuplicate s.slots[k].lastAccepted s.queues[k] e.sequence = true) :
    takeArrival k e s
      = discardArrival k 1 { s.queues[k].stats with duplicates := bump s.queues[k].stats.duplicates } s :=
  (if_neg hs).trans (if_pos hd)

variable (hd : isDuplicate s.slots[k].lastAccepted s.queues[k] e.sequence = false)
include hd

/-- A late arrival is discarded (R84). -/
theorem takeArrival_of_late (hl : isLate s.convs[k] e.stamp = true) :
    takeArrival k e s = discardArrival k 2 { s.queues[k].stats with lates := bump s.queues[k].stats.lates } s :=
  (if_neg hs).trans ((if_neg (Bool.eq_false_iff.1 hd)).trans (if_pos hl))

/-- Another arrival is accepted (R85). -/
theorem takeArrival_of_accepted (hl : isLate s.convs[k] e.stamp = false) : takeArrival k e s = acceptArrival k e s :=
  (if_neg hs).trans ((if_neg (Bool.eq_false_iff.1 hd)).trans (if_neg (Bool.eq_false_iff.1 hl)))

end

/-! ### What an UP that is taken comes to (R65, R82 to R85) -/

/-- Whether the queue of a slot heard is stopped does not depend on the hearing. -/
theorem upHeard_state (k : SlotId) (f : UpFrame) (s : State) : (upHeard k f s).queues[k].state = s.queues[k].state := by
  rw [upHeard_queue]

/-- Whether an arrival is a duplicate does not depend on the hearing. -/
theorem isDuplicate_upHeard (k : SlotId) (f : UpFrame) (s : State) (sequence : Sequence) :
    isDuplicate (upHeard k f s).slots[k].lastAccepted (upHeard k f s).queues[k] sequence
      = isDuplicate s.slots[k].lastAccepted s.queues[k] sequence := by
  rw [upHeard_slot, upHeard_queue]
  rfl

section
variable {h : AirHeader} {f : UpFrame} {k : SlotId} {retried : Bool} {s : State} (hk : upFor h f s = some (k, retried))
include hk

/-- An UP for a stopped queue is heard alone (R65, R82). -/
theorem takeUp_of_stopped (hq : s.queues[k].state = .stopped) : takeUp h f s = upHeard k f s := by
  rw [takeUp_of_taken hk]
  exact takeArrival_of_stopped ((upHeard_state k f s).trans hq)

variable (hq : s.queues[k].state ≠ .stopped)
include hq

/-- A duplicate is heard and discarded (R65, R83). -/
theorem takeUp_of_duplicate (hd : isDuplicate s.slots[k].lastAccepted s.queues[k] f.sequence = true) :
    takeUp h f s = raiseAt Source.arrivalDiscard 1 k ((upHeard k f s).setQueue k
      { (upHeard k f s).queues[k] with
        stats := { (upHeard k f s).queues[k].stats with
          duplicates := saturatingSucc max32 s.queues[k].stats.duplicates } }) := by
  have hcount : (upHeard k f s).queues[k].stats.duplicates = s.queues[k].stats.duplicates := by rw [upHeard_queue]
  rw [takeUp_of_taken hk, takeArrival_of_duplicate (by rwa [upHeard_state]) (by rwa [isDuplicate_upHeard]), hcount]
  rfl

variable (hd : isDuplicate s.slots[k].lastAccepted s.queues[k] f.sequence = false)
include hd

/-- A late arrival is heard and discarded (R65, R84). -/
theorem takeUp_of_late (hl : isLate s.convs[k] f.stamp = true) :
    takeUp h f s = raiseAt Source.arrivalDiscard 2 k ((upHeard k f s).setQueue k
      { (upHeard k f s).queues[k] with
        stats := { (upHeard k f s).queues[k].stats with lates := saturatingSucc max32 s.queues[k].stats.lates } }) := by
  have hcount : (upHeard k f s).queues[k].stats.lates = s.queues[k].stats.lates := by rw [upHeard_queue]
  rw [takeUp_of_taken hk, takeArrival_of_late (e := entryOf f s.air.anchor retried) (s := upHeard k f s)
    (by rwa [upHeard_state]) (by rwa [isDuplicate_upHeard]) hl, hcount]
  rfl

/-- Another arrival is heard and accepted (R65, R85). -/
theorem takeUp_of_accepted (hl : isLate s.convs[k] f.stamp = false) :
    takeUp h f s = acceptArrival k (entryOf f s.air.anchor retried) (upHeard k f s) := by
  rw [takeUp_of_taken hk, takeArrival_of_accepted (e := entryOf f s.air.anchor retried) (s := upHeard k f s)
    (by rwa [upHeard_state]) (by rwa [isDuplicate_upHeard]) hl]

end

end Sys2Proof.Machine

open Sys2Proof Sys2Proof.Machine

/-- Settles O33: an UP that is taken is heard, and then judged by the queue's state, the last accepted and the claimed edge. -/
theorem upIsHeardThenJudged : Obligations.UpIsHeardThenJudged := by
  refine ⟨fun h f k retried s hu hs he => ⟨fun hn => ?_, fun hfits => ?_⟩, fun h f s hn => ?_⟩
  · exact congrArg _ (takeUp_of_not_taken fun j r ⟨_, _, _, hfits⟩ => hn hfits)
  · have hk := (upFor_iff h f k retried s).2 ⟨hu, hs, he, hfits⟩
    refine ⟨fun hq => ?_, fun hq => ⟨fun hd => ?_, fun hd hedge hlate => ?_⟩⟩
    · exact congrArg _ (takeUp_of_stopped hk hq)
    · exact congrArg _ (takeUp_of_duplicate hk hq ((isDuplicate_iff _ _ _).2 hd))
    · exact congrArg _ (takeUp_of_late hk hq (isDuplicate_eq_false hd) ((isLate_iff _ _).2 ⟨hedge, hlate⟩))
  · refine congrArg _ (takeUp_of_not_taken fun k r ⟨hu, hs, he, _⟩ => hn k ⟨?_, hs, he⟩)
    cases r with
    | false => exact .inl hu
    | true => exact .inr hu
end

section
/-! An accepted arrival, as the statements say it (R65, R79, R85, R86, R91, R102, R103, R117). -/

namespace Sys2Proof.Machine

open Sys2Proof

/-! ### The point of an arrival (R102, R103) -/

/-- A point opens a closed window, or is the last of the open one (R103). -/
theorem Converter.givePoint_eq (interval : Count32) (p : Point) (c : Converter) :
    c.givePoint interval p = if c.windowOpen = true then { c with lastPoint := some p, pointCount := c.pointCount + 1 }
      else { c with
        windowOpen := true, firstPoint := some p, lastPoint := some p, pointCount := 1, openingInterval := interval } := rfl

section
variable {e : QueueEntry} (interval : Count32) (c : Converter)

/-- An arrival with a ready lag above 1,000,000 ticks gives the drift tracker no point (R102). -/
theorem Converter.offered_of_large (h : 1000000 < e.readyLag.toNat) : c.offered e interval = c := by
  rw [offered, pointOf, if_neg (Nat.not_le.2 h)]

/-- An arrival with a ready lag of at most 1,000,000 ticks gives the drift tracker its point (R102). -/
theorem Converter.offered_of_small (h : e.readyLag.toNat ≤ 1000000) :
    c.offered e interval = c.givePoint interval ⟨e.anchor - e.readyLag.zeroExtend 32, e.stamp⟩ := by
  rw [offered, pointOf, if_pos h]

/-- An offer leaves a fresh start pending or not (R102). -/
theorem Converter.offered_freshStartPending : (c.offered e interval).freshStartPending = c.freshStartPending := by
  unfold offered
  split
  · rw [givePoint_eq]
    split <;> rfl
  · rfl

end

/-! ### The room for an arrival (R86, R117) -/

/-- An overrun abandons a partly read head, and else gives up a real follower (R86, R117). -/
theorem Converter.overrun_eq (c : Converter) :
    c.overrun = if c.current = .real then { c with current := .none, index := 0 }
      else if c.follower = .real then { c with follower := .none } else c := by
  cases h : c.current <;> simp only [overrun, h, reduceCtorEq, if_true, if_false]

/-- An overrun leaves a fresh start pending or not (R86). -/
theorem Converter.overrun_freshStartPending (c : Converter) : c.overrun.freshStartPending = c.freshStartPending := by
  rw [overrun_eq]
  split
  · rfl
  · split <;> rfl

/-- The record once room has been made in its queue, if it is full (R86). -/
def Converter.roomMade (q : RxQueue) (c : Converter) : Converter := if 8 ≤ q.entries.length then c.overrun else c

/-- The making of room leaves a fresh start pending or not (R86). -/
theorem Converter.roomMade_freshStartPending (q : RxQueue) (c : Converter) :
    (c.roomMade q).freshStartPending = c.freshStartPending := by
  unfold roomMade
  split
  · exact c.overrun_freshStartPending
  · rfl

/-! ### The start of play (R85, R91) -/

/-- A queue that takes an entry begins to play when it is neither stopped nor playing and comes to its start level (R85). -/
theorem reachesStart_appended_iff (e : QueueEntry) {q : RxQueue} (h : q.state ≠ .stopped) :
    reachesStart (q.appended e) = true ↔ q.state ≠ .playing
      ∧ q.startLevel ≤ (if 8 ≤ q.entries.length then q.entries.tail else q.entries).length + 1 := by
  rw [reachesStart, Bool.and_eq_true, decide_eq_true_iff, RxQueue.appended, List.length_append, List.length_singleton]
  refine and_congr_left fun _ => ?_
  cases hs : q.state <;> simp [hs] at h ⊢

/-- The queue once it has taken an entry, as it plays or waits then (R85, R91). -/
theorem appended_started (e : QueueEntry) {q : RxQueue} (h : q.state ≠ .stopped) :
    (if reachesStart (q.appended e) then { q.appended e with state := .playing } else q.appended e)
      = { q.appended e with
        state := if q.state ≠ .playing
            ∧ q.startLevel ≤ (if 8 ≤ q.entries.length then q.entries.tail else q.entries).length + 1 then .playing
          else q.state } := by
  simp only [← reachesStart_appended_iff e h]
  split <;> rfl

/-- A fresh start is pending when it was, or when the queue begins to play (R91). -/
theorem freshStart_of_appended (e : QueueEntry) {q : RxQueue} (h : q.state ≠ .stopped) (c : Converter) :
    (if reachesStart (q.appended e) then { c with freshStartPending := true } else c)
      = { c with
        freshStartPending := c.freshStartPending || (q.state != .playing
          && decide (q.startLevel ≤ (if 8 ≤ q.entries.length then q.entries.tail else q.entries).length + 1)) } := by
  have hstart : (q.state != .playing
      && decide (q.startLevel ≤ (if 8 ≤ q.entries.length then q.entries.tail else q.entries).length + 1))
        = reachesStart (q.appended e) := by
    rw [Bool.eq_iff_iff, reachesStart_appended_iff e h, Bool.and_eq_true, bne_iff_ne, decide_eq_true_iff]
  rw [hstart]
  cases reachesStart (q.appended e) with
  | false => rw [Bool.or_false]; rfl
  | true => rw [Bool.or_true]; rfl

/-! ### The state after an accepted UP (R65, R85) -/

section
variable (k : SlotId) (f : UpFrame) (e : QueueEntry) (s : State)

/-- The slot of an UP that is heard and accepted (R65, R85). -/
theorem acceptArrival_upHeard_slots : (acceptArrival k e (upHeard k f s)).slots
    = s.slots.set k { s.slots[k] with heard := true, lastAccepted := some e.sequence } := by
  rw [acceptArrival_eq]
  dsimp only
  rw [set_get, Vector.set_set]

/-- The queue of a slot that is heard, once it is written anew. -/
theorem upHeard_queues_set (q : RxQueue) : (upHeard k f s).queues.set k q = s.queues.set k q := by
  unfold upHeard
  cases f.downAck with
  | false => exact Vector.set_set ..
  | true => rfl

variable (hq : s.queues[k].state ≠ .stopped)
include hq

/-- The queue of an UP that is heard and accepted (R65, R85, R86, R91). -/
theorem acceptArrival_upHeard_queues : (acceptArrival k e (upHeard k f s)).queues
    = s.queues.set k { (upHeard k f s).queues[k].appended e with
      state := if s.queues[k].state ≠ .playing ∧ s.queues[k].startLevel
          ≤ (if 8 ≤ s.queues[k].entries.length then s.queues[k].entries.tail else s.queues[k].entries).length + 1
        then .playing else s.queues[k].state } := by
  rw [acceptArrival_eq]
  dsimp only
  rw [upHeard_queues_set, appended_started e (by rwa [upHeard_state]), upHeard_queue]

/-- The converter of an UP that is heard and accepted (R85, R86, R91, R102, R117). -/
theorem acceptArrival_upHeard_convs : (acceptArrival k e (upHeard k f s)).convs
    = s.convs.set k { (s.convs[k].offered e s.air.interval).roomMade s.queues[k] with
      freshStartPending := s.convs[k].freshStartPending || (s.queues[k].state != .playing && s.queues[k].startLevel
        ≤ (if 8 ≤ s.queues[k].entries.length then s.queues[k].entries.tail else s.queues[k].entries).length + 1) } := by
  rw [acceptArrival_eq]
  dsimp only
  rw [freshStart_of_appended e (by rwa [upHeard_state]), upHeard_queue]
  dsimp only
  rw [← Converter.roomMade, Converter.roomMade_freshStartPending, Converter.offered_freshStartPending]

end

end Sys2Proof.Machine

open Sys2Proof Sys2Proof.Machine

/-- Settles O34: an UP that is neither a duplicate nor late is heard and accepted, slot, queue and converter each as said above. -/
theorem acceptedArrivalIsQueued : Obligations.AcceptedArrivalIsQueued := by
  intro h f k retried s hu hs he hfits hq hd hl
  have hlate : isLate s.convs[k] f.stamp = false :=
    Bool.eq_false_iff.2 fun ht => hl.elim ((isLate_iff _ _).1 ht).1 (Int.not_le.2 ((isLate_iff _ _).1 ht).2)
  have htaken := takeUp_of_accepted ((upFor_iff h f k retried s).2 ⟨hu, hs, he, hfits⟩) hq (isDuplicate_eq_false hd) hlate
  refine ⟨acceptArrival k (entryOf f s.air.anchor retried) (upHeard k f s), _, _, _, _,
    congrArg Host.Outcome.next htaken, rfl, acceptArrival_upHeard_slots k f _ s,
    (acceptArrival_upHeard_queues k f _ s hq).trans ?_, rfl,
    fun hlag => Converter.offered_of_large s.air.interval s.convs[k] hlag,
    fun hlag => (Converter.offered_of_small s.air.interval s.convs[k] hlag).trans (Converter.givePoint_eq _ _ _),
    fun h8 => if_neg (Nat.not_le.2 h8), fun h8 => (if_pos h8).trans (Converter.overrun_eq _),
    acceptArrival_upHeard_convs k f _ s hq, ?_, ?_⟩
  · rw [upHeard_queue]
    rfl
  · rw [acceptArrival_eq]
    dsimp only
    rw [upHeard_queue]
  · rw [acceptArrival_eq]
    exact ⟨rfl, rfl, rfl, rfl, rfl, rfl, rfl, rfl, rfl, rfl, rfl, rfl, rfl⟩
end

section
/-! What no command but the passing of time reaches: the slot plan and the queue of commands (R53, R54; log entry 1). -/

namespace Sys2Proof.Machine

open Sys2Proof

/-- The slot plan stands, its time base, interval, slot in progress and anchor, and so does the queue of commands. -/
structure PlanStands (s t : State) : Prop where
  plan : t.air = { s.air with use := t.air.use, lastGranted := t.air.lastGranted, sent := t.air.sent }
  queue : t.pending = s.pending

theorem PlanStands.refl (s : State) : PlanStands s s := ⟨rfl, rfl⟩

theorem PlanStands.trans {s t u : State} (h : PlanStands s t) (g : PlanStands t u) : PlanStands s u :=
  ⟨g.plan.trans (by rw [h.plan]), g.queue.trans h.queue⟩

/-- With the air and the queue of commands unchanged the plan stands. -/
theorem PlanStands.of_eq {s t : State} (ha : t.air = s.air) (hp : t.pending = s.pending) : PlanStands s t :=
  ⟨by rw [ha], hp⟩

/-- The port is no part of the plan. -/
theorem PlanStands.withPort {s t : State} (h : PlanStands s t) (p : PortRecord) : PlanStands s { t with port := p } :=
  ⟨h.plan, h.queue⟩

/-- What the statements call the rest stands, and the plan with it. -/
theorem PlanStands.of_rest {s t : State} (h : restStands s t) : PlanStands s t := by
  obtain ⟨-, hair, -, -, -, -, -, -, -, hpending⟩ := h
  exact .of_eq hair hpending

/-- Notices are no part of the plan. -/
theorem PlanStands.withNotices {s t : State} (h : PlanStands s t) (n : Notices) : PlanStands s { t with notices := n } :=
  ⟨h.plan, h.queue⟩

/-- The Control Port is no part of the plan. -/
theorem PlanStands.setControl {s t : State} (h : PlanStands s t) (c : ControlPort) : PlanStands s (t.setControl c) :=
  ⟨h.plan, h.queue⟩

/-! ### The taking of a request (R173, R174) -/

theorem plan_takeWith (kind : Byte) (m : Message) {answer : State → Answer} (h : ∀ u : State, PlanStands u (answer u).state)
    (s : State) : PlanStands s (takeWith kind m answer s) := by
  by_cases ht : takeable m s
  · rw [takeWith_of_takeable ht]
    exact PlanStands.trans (t := dropRequest s) ⟨rfl, rfl⟩ ((h (dropRequest s)).trans ⟨rfl, rfl⟩)
  · rw [takeWith_of_not_takeable ht]
    exact .refl s

theorem plan_takeRequest (kind tag : Byte) (body : List Byte) {answer : State → Answer}
    (h : ∀ u : State, PlanStands u (answer u).state) (s : State) : PlanStands s (takeRequest kind tag body answer s) :=
  plan_takeWith _ _ h s

/-! ### The calls and the slots' freeing (R4 to R14, R59, R66) -/

/-- What stands beside the call is more than the plan. -/
theorem BesideCallStands.planStands {s t : State} (h : BesideCallStands s t) : PlanStands s t := .of_eq h.air h.pending

theorem plan_freeSlot (k : SlotId) (s : State) : PlanStands s (freeSlot k s) := by
  by_cases h : completesClosing k s
  · rw [freeSlot_of_completes h]
    exact PlanStands.trans (t := slotFreed k s) ⟨rfl, rfl⟩ (completeClosing_beside (slotFreed k s)).planStands
  · rw [freeSlot_of_not_completes h]
    exact ⟨rfl, rfl⟩

theorem plan_leaveStreaming (k : SlotId) (s : State) : PlanStands s (leaveStreaming k s) := by
  obtain ⟨-, -, -, -, -, -, hrest⟩ := leaveStreaming_spec k s
  exact .of_rest hrest

theorem plan_enterLeaving (k : SlotId) (s : State) : PlanStands s (enterLeaving k s) :=
  (plan_leaveStreaming k s).trans (.of_eq rfl rfl)

theorem plan_enterClosing (reason : CloseReason) (s : State) : PlanStands s (enterClosing reason s) :=
  (PlanStands.of_rest (slotsSentAway_beside s).rest).trans (enterClosing_beside reason s).planStands

theorem plan_callOpen (body : List Byte) (s : State) : PlanStands s (callOpen body s).state := by
  unfold callOpen
  split
  · split
    · split <;> exact ⟨rfl, rfl⟩
    · exact .refl s
  · exact .refl s

theorem plan_callHold (body : List Byte) (s : State) : PlanStands s (callHold body s).state := by
  unfold callHold
  split
  · split <;> exact ⟨rfl, rfl⟩
  · exact .refl s

theorem plan_callResume (body : List Byte) (s : State) : PlanStands s (callResume body s).state := by
  unfold callResume
  split
  · split <;> exact ⟨rfl, rfl⟩
  · exact .refl s

theorem plan_callClose (body : List Byte) (s : State) : PlanStands s (callClose body s).state := by
  unfold callClose
  split
  · split
    · exact .refl s
    · exact ⟨rfl, rfl⟩
    · rw [answerOk_state]; exact plan_enterClosing _ s
    · rw [answerOk_state]; exact plan_enterClosing _ s
    · rw [answerOk_state]; exact plan_enterClosing _ s
    · exact .refl s
  · exact .refl s

theorem plan_callGet (body : List Byte) (s : State) : PlanStands s (callGet body s).state := by
  unfold callGet
  split <;> exact .refl s

theorem plan_lockTimeout (s : State) : PlanStands s (lockTimeout s) := by
  unfold lockTimeout
  split <;> exact ⟨rfl, rfl⟩

/-! ### The Call Port (R9 to R11, R153 to R157) -/

/-- A block event reaches neither the air nor the queue of commands. -/
theorem plan_formBlock (down : List Sample) (s : State) : PlanStands s (formBlock down s) := by
  obtain ⟨-, hair, -⟩ := formBlock_beside down s
  obtain ⟨-, -, -, -, -, -, -, -, -, -, -, -, -, -, -, -, -, -, -, -, -, -, hpending⟩ := formBlock_spec down s
  exact .of_eq hair hpending

theorem plan_takeLock (s : State) : PlanStands s (takeLock s) := by
  unfold takeLock
  split <;> exact ⟨rfl, rfl⟩

theorem plan_huntSync (first second : BitVec 16) (s : State) : PlanStands s (huntSync first second s) := by
  unfold huntSync
  split
  · unfold lockPort
    exact ((PlanStands.refl s).withPort _).trans (plan_takeLock _)
  · exact ⟨rfl, rfl⟩

theorem plan_syncInStep (first second : BitVec 16) (s : State) : PlanStands s (syncInStep first second s) := by
  by_cases hi : s.port.wordIndex + 1 < s.blockSamples
  · rw [syncInStep_inside first second hi]
    exact ⟨rfl, rfl⟩
  · rw [syncInStep_last first second (Nat.not_lt.1 hi)]
    exact PlanStands.trans (t := referenced s) ⟨rfl, rfl⟩ ((plan_formBlock s.port.downGathering (referenced s)).withPort _)

theorem plan_takeSync (first second : BitVec 16) (s : State) : PlanStands s (takeSync first second s) := by
  unfold takeSync
  split
  · exact .refl s
  · exact plan_huntSync first second s
  · exact plan_huntSync first second s
  · exact plan_syncInStep first second s

theorem plan_countFreeRun (s : State) : PlanStands s (countFreeRun s) := by
  unfold countFreeRun
  split
  · split
    · exact PlanStands.trans (t := { s with call := { s.call with freeRunCount := 200 } }) ⟨rfl, rfl⟩
        (plan_enterClosing .syncLost _)
    · exact ⟨rfl, rfl⟩
  · exact .refl s

theorem plan_freeRunBlock (s : State) : PlanStands s (freeRunBlock s) := by
  rw [freeRunBlock_eq]
  have hformed : PlanStands s (freeRunFormed s) := (plan_formBlock (silence s) s).withPort _
  exact hformed.trans (plan_countFreeRun _)

theorem plan_takeSyncLoss (s : State) : PlanStands s (takeSyncLoss s) := by
  unfold takeSyncLoss
  split <;> exact ⟨rfl, rfl⟩

theorem plan_syncLoss (s : State) : PlanStands s (syncLoss s) := by
  have hlost : PlanStands s (syncLost s) := ((PlanStands.refl s).withPort s.port.lose).trans (plan_takeSyncLoss _)
  have hrun := hlost.trans (plan_freeRunBlock (syncLost s))
  unfold syncLoss
  split
  · unfold declareSyncLoss
    dsimp only
    split
    · exact hrun.withPort _
    · split
      · exact hrun
      · exact hlost
  · exact .refl s

theorem plan_freeRunningBlockEvent (s : State) : PlanStands s (freeRunningBlockEvent s) := by
  unfold freeRunningBlockEvent
  split
  · exact plan_freeRunBlock s
  · exact .refl s

/-! ### The requests of the other blocks -/

theorem plan_hello (body : List Byte) (s : State) : PlanStands s (hello body s).state := by
  unfold hello
  split <;> exact ⟨rfl, rfl⟩

theorem plan_resetSoft (body : List Byte) (s : State) : PlanStands s (resetSoft body s).state := by
  unfold resetSoft
  split <;> exact ⟨rfl, rfl⟩

theorem plan_rosterPut (body : List Byte) (s : State) : PlanStands s (rosterPut body s).state := by
  rcases rosterPut_cases body s with ⟨st, he⟩ | ⟨i, c, -, -, -, he⟩ <;> rw [he] <;> exact ⟨rfl, rfl⟩

theorem plan_rosterGet (body : List Byte) (s : State) : PlanStands s (rosterGet body s).state := by
  unfold rosterGet
  split
  · split <;> exact .refl s
  · exact .refl s

theorem plan_rosterDrop (body : List Byte) (s : State) : PlanStands s (rosterDrop body s).state := by
  unfold rosterDrop
  split
  · split
    · split <;> exact ⟨rfl, rfl⟩
    · exact .refl s
  · exact .refl s

theorem plan_queueSet (body : List Byte) (s : State) : PlanStands s (queueSet body s).state := by
  unfold queueSet
  split
  · dsimp only
    split
    · exact ⟨rfl, rfl⟩
    · split <;> exact ⟨rfl, rfl⟩
  · exact .refl s

theorem plan_statsGet (body : List Byte) (s : State) : PlanStands s (statsGet body s).state := by
  unfold statsGet
  split
  · split <;> exact .refl s
  · exact .refl s

theorem plan_mixSet (body : List Byte) (s : State) : PlanStands s (mixSet body s).state := by
  unfold mixSet
  split
  · split <;> exact ⟨rfl, rfl⟩
  · exact .refl s

theorem plan_mixCommit (body : List Byte) (s : State) : PlanStands s (mixCommit body s).state := by
  unfold mixCommit
  split
  · split <;> exact ⟨rfl, rfl⟩
  · exact .refl s

theorem plan_mixGet (body : List Byte) (s : State) : PlanStands s (mixGet body s).state := by
  unfold mixGet
  split
  · split <;> exact .refl s
  · exact .refl s

theorem plan_sinkSet (body : List Byte) (s : State) : PlanStands s (sinkSet body s).state := by
  unfold sinkSet
  split
  · split <;> exact ⟨rfl, rfl⟩
  · exact .refl s

theorem plan_voiceSet (body : List Byte) (s : State) : PlanStands s (voiceSet body s).state := by
  unfold voiceSet
  split
  · split <;> exact ⟨rfl, rfl⟩
  · exact .refl s

theorem plan_watchSet (body : List Byte) (s : State) : PlanStands s (watchSet body s).state := by
  unfold watchSet
  split
  · split <;> exact ⟨rfl, rfl⟩
  · exact .refl s

theorem plan_noticeRoute (body : List Byte) (s : State) : PlanStands s (noticeRoute body s).state := by
  unfold noticeRoute
  split
  · split
    · split <;> exact ⟨rfl, rfl⟩
    · exact .refl s
  · exact .refl s

theorem plan_noticeMask (body : List Byte) (s : State) : PlanStands s (noticeMask body s).state := by
  unfold noticeMask
  split
  · split <;> exact ⟨rfl, rfl⟩
  · exact .refl s

theorem plan_noticeAck (body : List Byte) (s : State) : PlanStands s (noticeAck body s).state := by
  unfold noticeAck
  split
  · split
    · split <;> exact ⟨rfl, rfl⟩
    · exact .refl s
  · exact .refl s

theorem plan_noticePoll (body : List Byte) (s : State) : PlanStands s (noticePoll body s).state := by
  unfold noticePoll
  split
  · split
    · split
      · split
        · exact .refl s
        · exact (PlanStands.refl s).withNotices _
      · exact .refl s
    · exact .refl s
  · exact .refl s

/-! ### The Control Port (R172 to R175) -/

theorem plan_discardFrame (code : Byte) (s : State) : PlanStands s (discardFrame code s) :=
  (((PlanStands.refl s).setControl _).setControl _).withNotices _

theorem plan_settleFrame (s : State) : PlanStands s (settleFrame s) := by
  unfold settleFrame
  split
  · exact .refl s
  · exact plan_discardFrame 2 s
  · exact plan_discardFrame 1 s
  · exact (PlanStands.refl s).setControl _

theorem plan_receiveByte (b : Byte) (s : State) : PlanStands s (receiveByte b s) := by
  unfold receiveByte
  split
  · exact .refl s
  · split
    · exact plan_discardFrame 4 s
    · exact ((PlanStands.refl s).setControl _).trans (plan_settleFrame _)

theorem plan_byteTimeout (s : State) : PlanStands s (byteTimeout s) := by
  unfold byteTimeout
  split
  · exact plan_discardFrame 3 s
  · exact .refl s

theorem plan_transmitStart (hostReady : Bool) (s : State) : PlanStands s (transmitStart hostReady s) := by
  unfold transmitStart
  split
  · unfold chooseFrame
    split
    · exact (PlanStands.refl s).setControl _
    · split
      · exact (PlanStands.refl s).setControl _
      · split
        · exact ((PlanStands.refl s).withNotices _).setControl _
        · exact .refl s
  · exact .refl s

theorem plan_transmitDone (s : State) : PlanStands s (transmitDone s) := by
  unfold transmitDone
  split
  · exact .refl s
  · split <;> exact ⟨rfl, rfl⟩

/-! ### Joining and leaving, and the streams (R60 to R69, R82 to R105) -/

theorem plan_earJoin (body : List Byte) (s : State) : PlanStands s (earJoin body s).state := by
  unfold earJoin
  split
  · split
    · split
      · exact .refl s
      · split
        · exact .refl s
        · exact .refl s
        · exact .refl s
        · split
          · split <;> exact ⟨rfl, rfl⟩
          · exact .refl s
    · exact .refl s
  · exact .refl s

theorem plan_endJoin (result : Byte) (k : SlotId) (s : State) : PlanStands s (endJoin result k s) :=
  (plan_freeSlot k s).withNotices _

theorem plan_earLeave (body : List Byte) (s : State) : PlanStands s (earLeave body s).state := by
  unfold earLeave
  split
  · split
    · exact .refl s
    · next k hk =>
      split
      · exact .refl s
      · rw [answerOk_state]; exact plan_endJoin 6 k s
      · rw [answerOk_state]; exact plan_enterLeaving k s
      · exact .refl s
  · exact .refl s

theorem plan_joinAck (h : AirHeader) (accepts : Bool) (proof : Key) (s : State) :
    PlanStands s (joinAck h accepts proof s) := by
  unfold joinAck
  split
  · next k hk =>
    unfold answerJoin
    split
    · split
      · split
        · rw [enterStreaming_eq]
          exact ⟨rfl, rfl⟩
        · exact plan_endJoin 4 k s
      · exact .refl s
    · exact plan_endJoin 3 k s
  · exact .refl s

theorem plan_joinNoAnswer (k : SlotId) (s : State) : PlanStands s (joinNoAnswer k s) := by
  unfold joinNoAnswer
  split
  · exact plan_endJoin 5 k s
  · exact .refl s

theorem plan_leaveAck (h : AirHeader) (s : State) : PlanStands s (leaveAck h s) := by
  unfold leaveAck
  split
  · exact plan_freeSlot _ s
  · exact .refl s

theorem plan_leaveUnanswered (k : SlotId) (s : State) : PlanStands s (leaveUnanswered k s) := by
  unfold leaveUnanswered
  split
  · exact plan_freeSlot k s
  · exact .refl s

theorem plan_linkLoss (k : SlotId) (s : State) : PlanStands s (linkLoss k s) := by
  have hend : PlanStands s (endStream k s) := by
    unfold endStream
    split
    · exact plan_leaveStreaming k s
    · exact .refl s
  unfold linkLoss
  split
  · exact (hend.trans (plan_freeSlot k _)).withNotices _
  · exact .refl s

theorem plan_takeUp (h : AirHeader) (f : UpFrame) (s : State) : PlanStands s (takeUp h f s) := by
  unfold takeUp
  split
  · next k retried hk =>
    rw [noteHeard_eq]
    refine PlanStands.trans (t := upHeard k f s) ⟨rfl, rfl⟩ ?_
    unfold takeArrival
    split
    · exact .refl _
    · split
      · exact ⟨rfl, rfl⟩
      · split
        · exact ⟨rfl, rfl⟩
        · rw [acceptArrival_eq]
          exact ⟨rfl, rfl⟩
  · exact .refl s

theorem plan_fillTimeout (k : SlotId) (s : State) : PlanStands s (fillTimeout k s) := by
  unfold fillTimeout
  split <;> exact ⟨rfl, rfl⟩

theorem plan_driftWindowClose (k : SlotId) (s : State) : PlanStands s (driftWindowClose k s) := by
  unfold driftWindowClose
  split
  · unfold closeWindowWith raiseHold
    split <;> exact ⟨rfl, rfl⟩
  · exact .refl s

/-! ### Pairing (R35 to R49) -/

theorem plan_failPairing (reason : FailReason) (s : State) : PlanStands s (failPairing reason s) := by
  rw [failPairing_spec reason s]
  exact ⟨rfl, rfl⟩

theorem plan_pairStart (body : List Byte) (s : State) : PlanStands s (pairStart body s).state := by
  unfold pairStart
  split
  · split
    · split <;> exact ⟨rfl, rfl⟩
    · exact .refl s
  · exact .refl s

theorem plan_pairPick (body : List Byte) (s : State) : PlanStands s (pairPick body s).state := by
  unfold pairPick
  split
  · split
    · split
      · exact .refl s
      · split
        · exact .refl s
        · split
          · exact .refl s
          · split <;> exact ⟨rfl, rfl⟩
    · exact .refl s
  · exact .refl s

theorem plan_pairConfirm (body : List Byte) (s : State) : PlanStands s (pairConfirm body s).state := by
  unfold pairConfirm
  split
  · split
    · split <;> exact ⟨rfl, rfl⟩
    · exact .refl s
  · exact .refl s

theorem plan_pairCancel (body : List Byte) (s : State) : PlanStands s (pairCancel body s).state := by
  unfold pairCancel
  split
  · split
    · exact .refl s
    · unfold cancelPairing
      split
      · split
        · exact plan_failPairing .cancelled s
        · exact ⟨rfl, rfl⟩
      · exact .refl s
  · exact .refl s

theorem plan_ask (h : AirHeader) (declared : RawDeclared) (quality : Byte) (s : State) :
    PlanStands s (ask h declared quality s) := by
  unfold ask
  split
  · split
    · unfold raiseCandidate
      split <;> exact ⟨rfl, rfl⟩
    · exact .refl s
  · exact .refl s

theorem plan_accept (h : AirHeader) (earValue : PublicValue) (s : State) : PlanStands s (accept h earValue s) := by
  unfold accept
  split <;> exact ⟨rfl, rfl⟩

theorem plan_confirm (h : AirHeader) (s : State) : PlanStands s (confirm h s) := by
  unfold confirm
  split <;> exact ⟨rfl, rfl⟩

theorem plan_reject (h : AirHeader) (s : State) : PlanStands s (reject h s) := by
  unfold reject
  split
  · exact plan_failPairing .rejectedByEar s
  · exact .refl s

theorem plan_bound (h : AirHeader) (s : State) : PlanStands s (bound h s) := by
  unfold bound
  split
  · split
    · unfold settleBind
      split <;> exact ⟨rfl, rfl⟩
    · exact .refl s
  · exact .refl s

theorem plan_candidateExpiry (s : State) : PlanStands s (candidateExpiry s) := by
  unfold candidateExpiry
  split <;> exact ⟨rfl, rfl⟩

theorem plan_windowEnd (s : State) : PlanStands s (windowEnd s) := by
  unfold windowEnd
  split
  · exact plan_failPairing .windowEnd s
  · exact .refl s

theorem plan_offerTimeout (s : State) : PlanStands s (offerTimeout s) := by
  unfold offerTimeout
  split
  · split
    · exact ⟨rfl, rfl⟩
    · exact PlanStands.trans (t := pairEvent 4 FailReason.noAnswer.code (s.setPair s.pair.failPick)) ⟨rfl, rfl⟩
        (plan_windowEnd _)
  · exact .refl s

theorem plan_keyComputationDone (s : State) : PlanStands s (keyComputationDone s) := by
  unfold keyComputationDone
  split
  · split <;> exact ⟨rfl, rfl⟩
  · exact .refl s

theorem plan_compareTimeout (s : State) : PlanStands s (compareTimeout s) := by
  unfold compareTimeout
  split <;> exact ⟨rfl, rfl⟩

/-! ### The slots and the interval's end (R53, R54, R70 to R75) -/

theorem plan_markRetry (k : SlotId) (s : State) : PlanStands s (markRetry k s) := by
  unfold markRetry
  split <;> exact ⟨rfl, rfl⟩

theorem plan_grantSpare (s : State) : PlanStands s (grantSpare s) := by
  unfold grantSpare
  split <;> exact ⟨rfl, rfl⟩

theorem plan_denyRetry (code : Byte) (k : SlotId) (s : State) : PlanStands s (denyRetry code k s) := by
  unfold denyRetry
  split <;> exact ⟨rfl, rfl⟩

theorem plan_startDownlink (k : SlotId) (s : State) : PlanStands s (startDownlink k s) := by
  unfold startDownlink
  split
  · exact .refl s
  · exact ⟨rfl, rfl⟩
  · unfold sendDown
    split <;> exact ⟨rfl, rfl⟩
  · exact ⟨rfl, rfl⟩

theorem plan_startUplink (k : SlotId) (s : State) : PlanStands s (startUplink k s) := by
  unfold startUplink
  split <;> exact ⟨rfl, rfl⟩

theorem plan_startTurn (s : State) : PlanStands s (startTurn s) := by
  unfold startTurn sendTurnFrame
  split
  · split
    case h_3 => split <;> exact ⟨rfl, rfl⟩
    all_goals exact ⟨rfl, rfl⟩
  · exact ⟨rfl, rfl⟩

theorem plan_startSlotNine (s : State) : PlanStands s (startSlotNine s) := by
  unfold startSlotNine
  split
  · exact (plan_grantSpare s).trans (forEachSlot_of_trans .trans (plan_denyRetry 1) _)
  · exact (plan_startTurn s).trans (forEachSlot_of_trans .trans (plan_denyRetry 2) _)

theorem plan_runSlot (n : Fin 10) (s : State) : PlanStands s (runSlot n s) := by
  match n with
  | 0 => exact plan_startDownlink 0 s
  | 1 => exact plan_startUplink 0 s
  | 2 => exact (plan_markRetry 0 s).trans (plan_startDownlink 1 _)
  | 3 => exact plan_startUplink 1 s
  | 4 => exact (plan_markRetry 1 s).trans (plan_startDownlink 2 _)
  | 5 => exact plan_startUplink 2 s
  | 6 => exact (plan_markRetry 2 s).trans (plan_startDownlink 3 _)
  | 7 => exact plan_startUplink 3 s
  | 8 => exact (plan_markRetry 3 s).trans (plan_grantSpare _)
  | 9 => exact plan_startSlotNine s

theorem plan_finishSlot (k : SlotId) (s : State) : PlanStands s (finishSlot k s) :=
  (plan_leaveUnanswered k s).trans ((plan_joinNoAnswer k _).trans ((plan_linkLoss k _).trans
    ((plan_driftWindowClose k _).trans (plan_fillTimeout k _))))

theorem plan_finishInterval (s : State) : PlanStands s (finishInterval s) :=
  (forEachSlot_of_trans .trans plan_finishSlot s).trans ((plan_offerTimeout _).trans ((plan_compareTimeout _).trans
    ((plan_keyComputationDone _).trans ((plan_windowEnd _).trans (plan_candidateExpiry _)))))

/-! ### The commands that let time pass (R34, R46, R53, R54) -/

theorem turnFirstHalfEnd_pending (s : State) : (turnFirstHalfEnd s).pending = s.pending := by
  unfold turnFirstHalfEnd
  split
  · unfold endAbandon
    split
    · split
      · exact (plan_failPairing _ (passToOffset 2000 s)).queue
      · rfl
    · rfl
  · rfl

theorem bindNoAnswer_pending (s : State) : (bindNoAnswer s).pending = s.pending := by
  unfold bindNoAnswer
  split
  · exact (plan_failPairing .noAnswer (passToOffset 4000 s)).queue
  · rfl

theorem airIntervalEnd_pending (s : State) : (airIntervalEnd s).pending = s.pending := by
  have hfinished : (if s.air.slot = none then finishInterval s else s).pending = s.pending := by
    split
    · exact (plan_finishInterval s).queue
    · rfl
  exact ((bindNoAnswer_pending _).trans (turnFirstHalfEnd_pending _)).trans hfinished

/-- What is left of an interval's end before slot `n`: for slot 0 all that no command has taken, else nothing (R53). -/
theorem plan_beforeSlot (n : Fin 10) (s : State) : PlanStands s (if n = 0 then finishInterval s else s) := by
  split
  · exact plan_finishInterval s
  · exact .refl s

theorem slotStart_pending (s : State) : (slotStart s).pending = s.pending := by
  unfold slotStart
  split
  · next n hn => exact (plan_runSlot n (beginSlot n _)).queue.trans (plan_beforeSlot n s).queue
  · rfl

theorem softReset_pending (s : State) : (softReset s).pending = s.pending := by
  unfold softReset
  split <;> rfl

theorem unknownKindRequest_pending (kind tag : Byte) (body : List Byte) (s : State) :
    (if isRequestKind kind then s else takeWith 0x80 ⟨kind, tag, body⟩ (refuse .unknownKind) s).pending = s.pending := by
  split
  · rfl
  · exact (plan_takeWith _ _ PlanStands.refl s).queue

/-! ### Every command -/

/-- Every command goes on, and leaves the queue of commands (log entry 1). -/
theorem exec_pending (c : Instr) (s : State) : ∃ t : State, exec c s = .next t ∧ t.pending = s.pending := by
  cases c with
  | powerOnReset => exact ⟨_, rfl, rfl⟩
  | hello tag body => exact ⟨_, rfl, (plan_takeRequest _ tag body (plan_hello body) s).queue⟩
  | resetSoft tag body => exact ⟨_, rfl, (plan_takeRequest _ tag body (plan_resetSoft body) s).queue⟩
  | softResetPerformed => exact ⟨_, rfl, softReset_pending s⟩
  | callOpen tag body => exact ⟨_, rfl, (plan_takeRequest _ tag body (plan_callOpen body) s).queue⟩
  | callHold tag body => exact ⟨_, rfl, (plan_takeRequest _ tag body (plan_callHold body) s).queue⟩
  | callResume tag body => exact ⟨_, rfl, (plan_takeRequest _ tag body (plan_callResume body) s).queue⟩
  | callClose tag body => exact ⟨_, rfl, (plan_takeRequest _ tag body (plan_callClose body) s).queue⟩
  | callGet tag body => exact ⟨_, rfl, (plan_takeRequest _ tag body (plan_callGet body) s).queue⟩
  | rosterPut tag body => exact ⟨_, rfl, (plan_takeRequest _ tag body (plan_rosterPut body) s).queue⟩
  | rosterGet tag body => exact ⟨_, rfl, (plan_takeRequest _ tag body (plan_rosterGet body) s).queue⟩
  | rosterDrop tag body => exact ⟨_, rfl, (plan_takeRequest _ tag body (plan_rosterDrop body) s).queue⟩
  | pairStart tag body => exact ⟨_, rfl, (plan_takeRequest _ tag body (plan_pairStart body) s).queue⟩
  | pairPick tag body => exact ⟨_, rfl, (plan_takeRequest _ tag body (plan_pairPick body) s).queue⟩
  | pairConfirm tag body => exact ⟨_, rfl, (plan_takeRequest _ tag body (plan_pairConfirm body) s).queue⟩
  | pairCancel tag body => exact ⟨_, rfl, (plan_takeRequest _ tag body (plan_pairCancel body) s).queue⟩
  | earJoin tag body => exact ⟨_, rfl, (plan_takeRequest _ tag body (plan_earJoin body) s).queue⟩
  | earLeave tag body => exact ⟨_, rfl, (plan_takeRequest _ tag body (plan_earLeave body) s).queue⟩
  | queueSet tag body => exact ⟨_, rfl, (plan_takeRequest _ tag body (plan_queueSet body) s).queue⟩
  | mixSet tag body => exact ⟨_, rfl, (plan_takeRequest _ tag body (plan_mixSet body) s).queue⟩
  | mixCommit tag body => exact ⟨_, rfl, (plan_takeRequest _ tag body (plan_mixCommit body) s).queue⟩
  | mixGet tag body => exact ⟨_, rfl, (plan_takeRequest _ tag body (plan_mixGet body) s).queue⟩
  | voiceSet tag body => exact ⟨_, rfl, (plan_takeRequest _ tag body (plan_voiceSet body) s).queue⟩
  | watchSet tag body => exact ⟨_, rfl, (plan_takeRequest _ tag body (plan_watchSet body) s).queue⟩
  | sinkSet tag body => exact ⟨_, rfl, (plan_takeRequest _ tag body (plan_sinkSet body) s).queue⟩
  | statsGet tag body => exact ⟨_, rfl, (plan_takeRequest _ tag body (plan_statsGet body) s).queue⟩
  | noticeRoute tag body => exact ⟨_, rfl, (plan_takeRequest _ tag body (plan_noticeRoute body) s).queue⟩
  | noticeMask tag body => exact ⟨_, rfl, (plan_takeRequest _ tag body (plan_noticeMask body) s).queue⟩
  | noticeAck tag body => exact ⟨_, rfl, (plan_takeRequest _ tag body (plan_noticeAck body) s).queue⟩
  | noticePoll tag body => exact ⟨_, rfl, (plan_takeRequest _ tag body (plan_noticePoll body) s).queue⟩
  | unknownKindRequest kind tag body => exact ⟨_, rfl, unknownKindRequest_pending kind tag body s⟩
  | controlPortByte elapsed byte => exact ⟨_, rfl, (plan_receiveByte byte (passTime elapsed s)).queue⟩
  | byteTimeout elapsed => exact ⟨_, rfl, (plan_byteTimeout (passTime elapsed s)).queue⟩
  | frameToRequest => exact ⟨_, rfl, rfl⟩
  | transmitStart hostReady => exact ⟨_, rfl, (plan_transmitStart hostReady s).queue⟩
  | transmitDone => exact ⟨_, rfl, (plan_transmitDone s).queue⟩
  | airIntervalEnd => exact ⟨_, rfl, airIntervalEnd_pending s⟩
  | slotStart => exact ⟨_, rfl, slotStart_pending s⟩
  | ask h declared quality => exact ⟨_, rfl, (plan_ask h declared quality s).queue⟩
  | accept h earValue => exact ⟨_, rfl, (plan_accept h earValue s).queue⟩
  | confirm h => exact ⟨_, rfl, (plan_confirm h s).queue⟩
  | reject h => exact ⟨_, rfl, (plan_reject h s).queue⟩
  | bound h => exact ⟨_, rfl, (plan_bound h s).queue⟩
  | joinAck h accepts proof => exact ⟨_, rfl, (plan_joinAck h accepts proof s).queue⟩
  | leaveAck h => exact ⟨_, rfl, (plan_leaveAck h s).queue⟩
  | up h frame => exact ⟨_, rfl, (plan_takeUp h frame s).queue⟩
  | pairTurnFirstHalfEnd => exact ⟨_, rfl, turnFirstHalfEnd_pending s⟩
  | bindNoAnswer => exact ⟨_, rfl, bindNoAnswer_pending s⟩
  | candidateExpiry => exact ⟨_, rfl, (plan_candidateExpiry s).queue⟩
  | windowEnd => exact ⟨_, rfl, (plan_windowEnd s).queue⟩
  | offerTimeout => exact ⟨_, rfl, (plan_offerTimeout s).queue⟩
  | keyComputationDone => exact ⟨_, rfl, (plan_keyComputationDone s).queue⟩
  | compareTimeout => exact ⟨_, rfl, (plan_compareTimeout s).queue⟩
  | joinNoAnswer k => exact ⟨_, rfl, (plan_joinNoAnswer k s).queue⟩
  | leaveUnanswered k => exact ⟨_, rfl, (plan_leaveUnanswered k s).queue⟩
  | linkLoss k => exact ⟨_, rfl, (plan_linkLoss k s).queue⟩
  | fillTimeout k => exact ⟨_, rfl, (plan_fillTimeout k s).queue⟩
  | driftWindowClose k => exact ⟨_, rfl, (plan_driftWindowClose k s).queue⟩
  | sync elapsed first second => exact ⟨_, rfl, (plan_takeSync first second (passTime elapsed s)).queue⟩
  | syncLoss elapsed => exact ⟨_, rfl, (plan_syncLoss (passTime elapsed s)).queue⟩
  | freeRunningBlockEvent elapsed => exact ⟨_, rfl, (plan_freeRunningBlockEvent (passTime elapsed s)).queue⟩
  | lockTimeout elapsed => exact ⟨_, rfl, (plan_lockTimeout (passTime elapsed s)).queue⟩

/-! ### Air frames for another than the part (R56) -/

/-- No frame of a turn is taken for another than the part (R34, R56). -/
theorem inTurn_of_foreign (began : PairState) {h : AirHeader} (s : State) (hd : h.destination ≠ Config.partAddress) :
    inTurn began h s = false := by
  rw [inTurn, beq_eq_false_iff_ne.2 hd, Bool.and_false]

/-- A frame for another than the part comes from no slot's earbud (R56). -/
theorem not_fromEarbud_of_foreign (k : SlotId) {h : AirHeader} (s : State) (hd : h.destination ≠ Config.partAddress) :
    ¬fromEarbud k h s := fun he => hd he.1

end Sys2Proof.Machine

open Sys2Proof Sys2Proof.Machine

/-- Settles O2: every command by what it leaves, and a foreign frame because neither a turn nor a slot takes it. -/
theorem commandsGoOnAndKeepQueue : Obligations.CommandsGoOnAndKeepQueue := by
  refine ⟨exec_pending, fun h s hd => ?_⟩
  have hturn := fun began => inTurn_of_foreign began s hd
  have hear := fun k => not_fromEarbud_of_foreign k s hd
  have hpartner : ∀ st, takenFromPartner st h s = false := fun st => by
    rw [takenFromPartner, hturn, Bool.false_and, Bool.false_and]
  have hword : wordTaken h s = false := by
    rw [wordTaken, hturn, hturn, Bool.or_false, Bool.false_and, Bool.false_and]
  have hask : (inTurn .listen h s && s.pair.state == .listen) = false := by rw [hturn, Bool.false_and]
  exact ⟨fun _ _ => congrArg _ (if_neg (Bool.eq_false_iff.1 hask)),
    fun _ => congrArg _ (if_neg (Bool.eq_false_iff.1 (hpartner _))),
    congrArg _ (if_neg (Bool.eq_false_iff.1 hword)), congrArg _ (if_neg (Bool.eq_false_iff.1 hword)),
    congrArg _ (if_neg (Bool.eq_false_iff.1 (hpartner _))),
    fun _ _ => congrArg _ (joinAck_of_not_taken _ _ fun k ht => hear k ht.2.2),
    congrArg _ (leaveAck_of_not_taken fun k ht => hear k ht.2.2),
    fun _ => congrArg _ (takeUp_of_not_taken fun k _ ht => hear k ht.2.2.1)⟩
end

section
/-! The start of a slot: its place in the interval, the uplink slots, the downlink slots, and slot 8 (R54, R55, R61, R68, R70 to
R75). -/

namespace Sys2Proof.Machine

open Sys2Proof

/-! ### The next slot of the plan (R54, R55) -/

/-- Slot `n` is next when slot `n - 1` is in progress, and slot 0 when none is (R54). -/
theorem nextSlot_of_before {a : AirState} (n : Fin 10) (h : a.slot = if n = 0 then none else some (n - 1)) :
    nextSlot a = some n := by
  rw [nextSlot, h]
  clear h
  revert n
  decide

/-- SLOT_START with a slot next begins it and runs it, what is left of the interval's end done before slot 0 (R53, R54). -/
theorem slotStart_of_next {s : State} {n : Fin 10} (h : nextSlot s.air = some n) :
    slotStart s = runSlot n (beginSlot n (if n = 0 then finishInterval s else s)) := by
  rw [slotStart, h]

/-- The same for another slot than slot 0 (R54). -/
theorem slotStart_of_slot {s : State} {n : Fin 10} (h : s.air.slot = some n) (h9 : n ≠ 9) :
    slotStart s = runSlot (n + 1) (beginSlot (n + 1) s) := by
  have hnext : nextSlot s.air = some (n + 1) := by rw [nextSlot, h]; exact if_neg h9
  have h0 : n + 1 ≠ 0 := fun h0 => h9 (by omega)
  rw [slotStart_of_next hnext, if_neg h0]

/-- The plan of a slot begun does not depend on the air but for the plan. -/
theorem slotBegun_congr {a b : AirState} (n : Fin 10) (h : b = { a with use := b.use, lastGranted := b.lastGranted, sent := b.sent }) :
    (slotBegun n .idle none b).slot = some n
      ∧ (slotBegun n .idle none b).anchor = 40000 * a.interval + BitVec.ofNat 32 (4000 * n.val)
      ∧ (slotBegun n .idle none b).timeBase = (slotBegun n .idle none a).timeBase
      ∧ (slotBegun n .idle none b).interval = a.interval := by
  rw [h]
  exact ⟨rfl, rfl, rfl, rfl⟩

/-- What the start of slot `n` leaves of the slot plan: it is in progress, and its start is latched (R54, R55). -/
theorem slotStart_plan {s : State} {n : Fin 10} (h : nextSlot s.air = some n) :
    (slotStart s).air.slot = some n
      ∧ (slotStart s).air.anchor = 40000 * s.air.interval + BitVec.ofNat 32 (4000 * n.val)
      ∧ (slotStart s).air.timeBase = (slotBegun n .idle none s.air).timeBase
      ∧ (slotStart s).air.interval = s.air.interval := by
  rw [slotStart_of_next h]
  have hrun := (plan_runSlot n (beginSlot n (if n = 0 then finishInterval s else s))).plan
  have hbegun := slotBegun_congr n (plan_beforeSlot n s).plan
  rw [beginSlot_air_eq] at hrun
  rw [hrun]
  exact hbegun

/-! ### The uplink slots (R54) -/

/-- A slot begun, whole (R54, R55). -/
theorem beginSlot_eq (n : Fin 10) (s : State) : beginSlot n s = { s with air := slotBegun n .idle none s.air } := by
  rw [← beginSlot_air_eq]
  rfl

/-- What an uplink slot is put to, by the state of its stream slot at its start (R54). -/
def uplinkUse (k : SlotId) (st : SlotState) : SlotUse :=
  match st with
  | .free => .idle
  | st => .uplink k st

/-- The start of an uplink slot only decides what is listened for (R54). -/
theorem startUplink_beginSlot (k : SlotId) (n : Fin 10) (s : State) :
    startUplink k (beginSlot n s) = { s with air := slotBegun n (uplinkUse k s.slots[k].state) none s.air } := by
  rw [startUplink, beginSlot_eq]
  dsimp only
  cases s.slots[k].state <;> rfl

/-! ### The candidates of retry (R70) -/

/-- The slots with the STREAMING ones among `ended` that have not been heard marked as candidates (R70). -/
def candidatesMarked (ended : SlotId → Bool) (slots : Vector StreamSlot 4) : Vector StreamSlot 4 :=
  Vector.ofFn fun j => { slots[j] with
    retryCandidate := slots[j].retryCandidate || (ended j && slots[j].state == .streaming && !slots[j].heard) }

/-- A slot of those so marked. -/
theorem candidatesMarked_slot (ended : SlotId → Bool) (slots : Vector StreamSlot 4) (j : SlotId) :
    (candidatesMarked ended slots)[j] = { slots[j] with
      retryCandidate := slots[j].retryCandidate || (ended j && slots[j].state == .streaming && !slots[j].heard) } :=
  Vector.getElem_ofFn j.isLt

/-- Slots that are marked no further stand. -/
theorem candidatesMarked_of_none {ended : SlotId → Bool} {slots : Vector StreamSlot 4}
    (h : ∀ j : SlotId, (ended j && slots[j].state == .streaming && !slots[j].heard) = false) :
    candidatesMarked ended slots = slots := by
  refine Vector.ext fun j hj => ?_
  refine (candidatesMarked_slot ended slots ⟨j, hj⟩).trans ?_
  rw [h, Bool.or_false]
  rfl

/-- The end of an uplink slot may mark its stream slot, and no other (R70). -/
theorem markRetry_slot (j k : SlotId) (s : State) :
    (markRetry k s).slots[j] = { s.slots[j] with
      retryCandidate := s.slots[j].retryCandidate || (j == k && s.slots[j].state == .streaming && !s.slots[j].heard) } := by
  by_cases hj : j = k
  · subst hj
    by_cases hm : s.slots[j].state = .streaming ∧ s.slots[j].heard = false
    · rw [markRetry, if_pos hm, State.setSlot_slots, set_get]
      simp only [hm, beq_self_eq_true, Bool.not_false, Bool.and_self, Bool.or_true]
    · have hn : (j == j && s.slots[j].state == .streaming && !s.slots[j].heard) = false := by
        rw [Bool.eq_false_iff]
        simpa only [beq_self_eq_true, Bool.true_and, Bool.and_eq_true, beq_iff_eq, Bool.not_eq_true',
          ne_eq] using hm
      rw [markRetry, if_neg hm, hn, Bool.or_false]
  · rw [beq_eq_false_iff_ne.2 hj, Bool.false_and, Bool.false_and, Bool.or_false]
    unfold markRetry
    split
    · exact set_get_other _ hj _
    · rfl

/-- The end of an uplink slot, whole (R70). -/
theorem markRetry_eq (k : SlotId) (s : State) :
    markRetry k s = { s with slots := candidatesMarked (fun j => j == k) s.slots } := by
  have hfields : markRetry k s = { s with slots := (markRetry k s).slots } := by
    unfold markRetry
    split <;> rfl
  have hslots : (markRetry k s).slots = candidatesMarked (fun j => j == k) s.slots := Vector.ext fun j hj =>
    (markRetry_slot ⟨j, hj⟩ k s).trans (candidatesMarked_slot (fun j => j == k) s.slots ⟨j, hj⟩).symm
  rw [hfields, hslots]

/-! ### The downlink slots (R61, R68, R75) -/

/-- Downlink slot 2k begun, with the slot before it marked as its uplink slot ended (R54, R70). -/
def downlinkBegun (k : SlotId) (s : State) : State :=
  { s with
    air := slotBegun (Fin.ofNat 10 (2 * k.val)) .idle none s.air
    slots := candidatesMarked (fun j => j.val + 1 == k.val) s.slots }

/-- The end of an uplink slot and the beginning of the next downlink slot (R54, R70). -/
theorem markRetry_beginSlot {j k : SlotId} {n : Fin 10} (s : State) (hn : n = Fin.ofNat 10 (2 * k.val))
    (hj : ∀ i : SlotId, (i == j) = (i.val + 1 == k.val)) : markRetry j (beginSlot n s) = downlinkBegun k s := by
  rw [markRetry_eq, beginSlot_eq, hn, funext hj]
  rfl

/-- SLOT_START of a downlink slot, no work of an interval's end being left before slot 0 (R53, R54). -/
theorem slotStart_of_downlink {k : SlotId} {s : State}
    (h : s.air.slot = if k = 0 then none else some (Fin.ofNat 10 (2 * k.val - 1))) (hf : k = 0 → finishInterval s = s) :
    slotStart s = startDownlink k (downlinkBegun k s) := by
  match k with
  | 0 =>
    have hbegun : beginSlot 0 s = downlinkBegun 0 s := by
      rw [beginSlot_eq, downlinkBegun, candidatesMarked_of_none fun j => rfl]
      rfl
    rw [slotStart_of_next (nextSlot_of_before 0 h), if_pos rfl, hf rfl, hbegun]
    rfl
  | 1 =>
    rw [slotStart_of_slot h (by decide), ← markRetry_beginSlot (j := 0) (n := 2) s rfl (by decide)]
    rfl
  | 2 =>
    rw [slotStart_of_slot h (by decide), ← markRetry_beginSlot (j := 1) (n := 4) s rfl (by decide)]
    rfl
  | 3 =>
    rw [slotStart_of_slot h (by decide), ← markRetry_beginSlot (j := 2) (n := 6) s rfl (by decide)]
    rfl

/-- Downlink slot 2k does not mark its own stream slot. -/
theorem downlinkBegun_slot (k : SlotId) (s : State) : (downlinkBegun k s).slots[k] = s.slots[k] := by
  have hk : (k.val + 1 == k.val) = false := beq_eq_false_iff_ne.2 (Nat.succ_ne_self k.val)
  refine (candidatesMarked_slot _ s.slots k).trans ?_
  rw [hk, Bool.false_and, Bool.false_and, Bool.or_false]

/-- Downlink slot 2k begun and done: what it leaves of the slot, of its store, of the notices, of its use and of the frame sent. -/
def downlinkDone (k : SlotId) (x : StreamSlot) (store : List Block) (n : Notices) (use : SlotUse) (sent : Option AirFrame)
    (s : State) : State :=
  { downlinkBegun k s with
    air := slotBegun (Fin.ofNat 10 (2 * k.val)) use sent s.air
    slots := (downlinkBegun k s).slots.set k x
    stores := s.stores.set k store
    notices := n }

/-- What a downlink slot leaves, part by part. -/
theorem downlinkDone_parts {k : SlotId} {x : StreamSlot} {store : List Block} {n : Notices} {use : SlotUse}
    {sent : Option AirFrame} {s t : State} (ht : t = downlinkDone k x store n use sent s) :
    besideAirStands s t ∧ t.pair = s.pair ∧ t.queues = s.queues
      ∧ t.air = slotBegun (Fin.ofNat 10 (2 * k.val)) use sent s.air
      ∧ (∀ j : SlotId, j ≠ k → t.stores[j] = s.stores[j]
        ∧ t.slots[j] = { s.slots[j] with
          retryCandidate := s.slots[j].retryCandidate
            || (j.val + 1 == k.val && s.slots[j].state == .streaming && !s.slots[j].heard) })
      ∧ t.slots[k] = x ∧ t.stores[k] = store ∧ t.notices = n := by
  subst ht
  exact ⟨⟨rfl, rfl, rfl, rfl, rfl, rfl, rfl, rfl, rfl, rfl, rfl⟩, rfl, rfl, rfl,
    fun _ hj => ⟨set_get_other _ hj _, (set_get_other _ hj _).trans (candidatesMarked_slot _ s.slots _)⟩,
    set_get _ k _, set_get _ k _, rfl⟩

/-- A frame to slot `k`'s earbud. -/
def frameToSlot (k : SlotId) (payload : AirPayload) (s : State) : AirFrame :=
  ⟨(slotAddress k s).getD 0, Config.partAddress, payload⟩

/-- The frame goes to the address in the contents of the slot's entry. -/
theorem frameToSlot_of_contents {k : SlotId} {i : EntryId} {held : Contents} {s : State} (payload : AirPayload)
    (hi : s.slots[k].rosterIndex = some i) (hc : s.roster[i].contents = some held) :
    frameToSlot k payload s = ⟨held.declared.address, Config.partAddress, payload⟩ := by
  rw [frameToSlot, slotAddress_of_contents hi hc]
  rfl

/-- A frame sent to slot `k`'s earbud, where the slot's entry and the roster are those of `s`. -/
theorem sendToSlot_eq {k : SlotId} (payload : AirPayload) {s u : State} (hi : u.slots[k].rosterIndex = s.slots[k].rosterIndex)
    (hr : u.roster = s.roster) :
    sendToSlot k payload u = { u with air := { u.air with sent := some (frameToSlot k payload s) } } := by
  have haddress : slotAddress k u = slotAddress k s := by simp only [slotAddress, slotContents, hi, hr]
  rw [sendToSlot, haddress]
  rfl

/-- A vector stands when an element is set to what it is. -/
theorem set_get_self {α : Type} {n : Nat} (v : Vector α n) (k : Fin n) : v.set k v[k] = v := Vector.set_getElem_self k.isLt

section
variable {k : SlotId} {s : State}

/-- In the downlink slot of a FREE slot nothing is sent (R54). -/
theorem downlink_of_free (h : s.slots[k].state = .free) :
    startDownlink k (downlinkBegun k s) = downlinkDone k s.slots[k] s.stores[k] s.notices .idle none s := by
  have hslot := downlinkBegun_slot k s
  rw [downlinkDone, set_get_self, ← hslot, set_get_self]
  simp only [startDownlink, hslot, h]
  rfl

/-- The record of what a downlink slot carried, and the frame carried, in the slot's downlink slot (R61, R68). -/
theorem sendToSlot_carried (c : Carried) (payload : AirPayload) :
    sendToSlot k payload (setUse (.downlink k)
      ((downlinkBegun k s).setSlot k { (downlinkBegun k s).slots[k] with carried := c }))
      = downlinkDone k { s.slots[k] with carried := c } s.stores[k] s.notices (.downlink k)
        (some (frameToSlot k payload s)) s := by
  refine (sendToSlot_eq (s := s) payload ?_ ?_).trans ?_
  · rw [setUse_slots, State.setSlot_slots, set_get, downlinkBegun_slot]
  · rfl
  · rw [downlinkBegun_slot, downlinkDone, set_get_self]
    rfl

/-- In the downlink slot of a JOINING slot a JOIN_REQ is sent (R61). -/
theorem downlink_of_joining (h : s.slots[k].state = .joining) :
    startDownlink k (downlinkBegun k s)
      = downlinkDone k { s.slots[k] with carried := .joinReq } s.stores[k] s.notices (.downlink k)
        (some (frameToSlot k (.joinReq s.call.rate k (s.slots[k].challenge.getD 0)) s)) s := by
  rw [← sendToSlot_carried]
  simp only [startDownlink, downlinkBegun_slot, h]
  rfl

/-- In the downlink slot of a LEAVING slot a LEAVE is sent (R68). -/
theorem downlink_of_leaving (h : s.slots[k].state = .leaving) :
    startDownlink k (downlinkBegun k s)
      = downlinkDone k { s.slots[k] with carried := .leave } s.stores[k] s.notices (.downlink k)
        (some (frameToSlot k .leave s)) s := by
  rw [← sendToSlot_carried]
  simp only [startDownlink, downlinkBegun_slot, h]

/-- The DOWN frame of a block in slot `k`'s downlink slot, and what it leaves of the slot and of its store (R75). -/
theorem sendToSlot_down (b : Block) (repeated : Bool) (store : List Block) (last : Option Block) :
    sendToSlot k (downPayload s.slots[k] b repeated)
      (((setUse (.downlink k) (downlinkBegun k s)).setStore k store).setSlot k
        { s.slots[k] with downSequence := s.slots[k].downSequence + 1, lastSent := last })
      = downlinkDone k { s.slots[k] with downSequence := s.slots[k].downSequence + 1, lastSent := last } store s.notices
        (.downlink k) (some (frameToSlot k (downPayload s.slots[k] b repeated) s)) s := by
  refine (sendToSlot_eq (s := s) _ ?_ ?_).trans ?_
  · rw [State.setSlot_slots, set_get]
  · rfl
  · rfl

variable (h : s.slots[k].state = .streaming)
include h

/-- In the downlink slot of a STREAMING slot a DOWN is sent (R75). -/
theorem downlink_of_streaming :
    startDownlink k (downlinkBegun k s) = sendDown k (setUse (.downlink k) (downlinkBegun k s)) := by
  simp only [startDownlink, downlinkBegun_slot, h]

/-- The oldest block of the store is sent (R75). -/
theorem downlink_of_block {b : Block} {rest : List Block} (hb : s.stores[k] = b :: rest) :
    startDownlink k (downlinkBegun k s)
      = downlinkDone k { s.slots[k] with downSequence := s.slots[k].downSequence + 1, lastSent := some b } rest s.notices
        (.downlink k) (some (frameToSlot k (downPayload s.slots[k] b false) s)) s := by
  rw [downlink_of_streaming h, ← sendToSlot_down]
  have hstore : (setUse (.downlink k) (downlinkBegun k s)).stores[k] = b :: rest := hb
  have hslot : (setUse (.downlink k) (downlinkBegun k s)).slots[k] = s.slots[k] := downlinkBegun_slot k s
  simp only [sendDown, hstore, hslot]

/-- With an empty store the block last sent is sent again, or zeros where there is none, and the slip is told (R75). -/
theorem downlink_of_empty (hb : s.stores[k] = []) :
    startDownlink k (downlinkBegun k s)
      = downlinkDone k { s.slots[k] with downSequence := s.slots[k].downSequence + 1 } []
        (s.notices.occur Source.downSlip (some k.val) 2 (BitVec.ofNat 32 k.val)) (.downlink k)
        (some (frameToSlot k
          (downPayload s.slots[k] (s.slots[k].lastSent.getD (zeroBlock s.call.rate.samples)) true) s)) s := by
  have hsent := sendToSlot_down (k := k) (s := s) (s.slots[k].lastSent.getD (zeroBlock s.call.rate.samples)) true []
    s.slots[k].lastSent
  have hempty : (setUse (.downlink k) (downlinkBegun k s)).setStore k [] = setUse (.downlink k) (downlinkBegun k s) := by
    rw [State.setStore, ← hb]
    exact congrArg (fun stores => { setUse (.downlink k) (downlinkBegun k s) with stores := stores }) (set_get_self s.stores k)
  rw [hempty] at hsent
  rw [downlink_of_streaming h]
  refine Eq.trans ?_ (congrArg (raiseAt Source.downSlip 2 k) hsent)
  have hstore : (setUse (.downlink k) (downlinkBegun k s)).stores[k] = [] := hb
  have hslot : (setUse (.downlink k) (downlinkBegun k s)).slots[k] = s.slots[k] := downlinkBegun_slot k s
  cases hl : s.slots[k].lastSent with
  | none =>
    simp only [sendDown, hstore, hslot, hl]
    rfl
  | some b =>
    simp only [sendDown, hstore, hslot, hl]
    rfl

end

/-- The DOWN frame of a block carries the low two bytes of its number (R57). -/
theorem downPayload_eq (x : StreamSlot) (b : Block) (repeated : Bool) :
    downPayload x b repeated
      = .down x.downSequence (b.number.extractLsb' 0 16) repeated x.lastAccepted b.samples := by
  have hnumber : b.number.truncate 16 = b.number.extractLsb' 0 16 := by
    ext i hi
    simp
  rw [downPayload, hnumber]

/-! ### Slot 8 (R70 to R72) -/

/-- The beginning of a slot leaves last granted (R71). -/
theorem slotBegun_lastGranted (n : Fin 10) (use : SlotUse) (sent : Option AirFrame) (a : AirState) :
    (slotBegun n use sent a).lastGranted = a.lastGranted := rfl

/-- A slot begun is what the statements say of it, whatever its use and its frame. -/
theorem slotBegun_of_eq {n : Fin 10} {use : SlotUse} {sent : Option AirFrame} {a b : AirState} (hb : b = slotBegun n use sent a) :
    b = { slotBegun n b.use b.sent a with lastGranted := b.lastGranted } := by
  subst hb
  rfl

/-- Slot 8 begun, with slot 3 marked as its uplink slot ended (R54, R70). -/
def spareBegun (s : State) : State :=
  { s with air := slotBegun 8 .idle none s.air, slots := candidatesMarked (fun j => j == 3) s.slots }

/-- SLOT_START of slot 8 grants it to the first candidate in turn (R70 to R72). -/
theorem slotStart_of_seven {s : State} (h : s.air.slot = some 7) : slotStart s = grantSpare (spareBegun s) := by
  rw [slotStart_of_slot h (by decide)]
  show grantSpare (markRetry 3 (beginSlot 8 s)) = _
  rw [markRetry_eq, beginSlot_eq]
  rfl

/-- A slot in slot 8: slot 3 is marked when it is STREAMING and not heard (R70). -/
theorem spareBegun_slot (k : SlotId) (s : State) : (spareBegun s).slots[k] = { s.slots[k] with
    retryCandidate := s.slots[k].retryCandidate || (k == 3 && s.slots[k].state == .streaming && !s.slots[k].heard) } :=
  candidatesMarked_slot (fun j => j == 3) s.slots k

/-- A slot is a candidate in slot 8 when it was one, or is slot 3, STREAMING and not heard (R70). -/
theorem spareBegun_candidate_iff (k : SlotId) (s : State) :
    (spareBegun s).slots[k].retryCandidate = true
      ↔ s.slots[k].retryCandidate = true ∨ (k = 3 ∧ s.slots[k].state = .streaming ∧ s.slots[k].heard = false) := by
  rw [spareBegun_slot]
  simp only [Bool.or_eq_true, Bool.and_eq_true, beq_iff_eq, Bool.not_eq_true', and_assoc]

/-- With no candidate in slot 8 no slot has been marked (R70). -/
theorem spareBegun_of_none {s : State} (h : ∀ k : SlotId, (spareBegun s).slots[k].retryCandidate = false) :
    spareBegun s = { s with air := slotBegun 8 .idle none s.air } := by
  rw [spareBegun, candidatesMarked_of_none fun j => ?_]
  have hj := h j
  rw [spareBegun_slot] at hj
  exact (Bool.or_eq_false_iff.1 hj).2

/-- The marking of slot 3 and the grant to slot `k` change nothing of the slots but their candidates (R70, R71). -/
theorem spareGranted_slot (j k : SlotId) (s : State) :
    ((spareBegun s).slots.set k { (spareBegun s).slots[k] with retryCandidate := false })[j]
      = { s.slots[j] with retryCandidate := (spareBegun s).slots[j].retryCandidate && j != k } := by
  rw [← granted_retryCandidate]
  by_cases hj : j = k
  · subst hj
    rw [set_get, spareBegun_slot]
  · rw [set_get_other _ hj, spareBegun_slot]

/-- A state with other slots in another air, part by part. -/
theorem airAndSlots_parts {air : AirState} {slots : Vector StreamSlot 4} {s t : State}
    (ht : t = { s with air := air, slots := slots }) :
    besideAirStands s t ∧ t.pair = s.pair ∧ t.queues = s.queues ∧ t.stores = s.stores ∧ t.notices = s.notices
      ∧ t.slots = slots ∧ t.air = air := by
  subst ht
  exact ⟨⟨rfl, rfl, rfl, rfl, rfl, rfl, rfl, rfl, rfl, rfl, rfl⟩, rfl, rfl, rfl, rfl, rfl, rfl⟩

/-- Of slots and air written twice the second stand. -/
theorem airAndSlots_again {u s : State} {air : AirState} {slots : Vector StreamSlot 4}
    (hu : u = { s with air := air, slots := slots }) (air' : AirState) (slots' : Vector StreamSlot 4) :
    { u with air := air', slots := slots' } = { s with air := air', slots := slots' } := by
  rw [hu]

end Sys2Proof.Machine

open Sys2Proof Sys2Proof.Machine

/-- Settles O28: the run of a slot leaves the plan, and an uplink slot only decides what is listened for. -/
theorem slotStartLatchesAnchorAndListens : Obligations.SlotStartLatchesAnchorAndListens := by
  refine ⟨fun s => ⟨fun n hn => ?_, fun h9 => ?_⟩, fun k s hk => ?_⟩
  · obtain ⟨hslot, hanchor, htime, hinterval⟩ := slotStart_plan (nextSlot_of_before n hn)
    exact ⟨slotStart s, _, rfl, hslot, rfl, hanchor, htime, hinterval, slotStart_pending s⟩
  · have hnext : nextSlot s.air = none := by rw [nextSlot, h9]; rfl
    refine congrArg Host.Outcome.next ?_
    rw [slotStart, hnext]
  · refine congrArg Host.Outcome.next ?_
    match k with
    | 0 => exact (slotStart_of_slot hk (by decide)).trans (startUplink_beginSlot 0 1 s)
    | 1 => exact (slotStart_of_slot hk (by decide)).trans (startUplink_beginSlot 1 3 s)
    | 2 => exact (slotStart_of_slot hk (by decide)).trans (startUplink_beginSlot 2 5 s)
    | 3 => exact (slotStart_of_slot hk (by decide)).trans (startUplink_beginSlot 3 7 s)

/-- Settles O29, by the state of the stream slot and, where it is STREAMING, by its store and the block last sent. -/
theorem downlinkSlotSendsByState : Obligations.DownlinkSlotSendsByState := by
  intro k s hslot hf
  have hstart := slotStart_of_downlink hslot hf
  cases hs : s.slots[k].state with
  | free =>
    obtain ⟨hbeside, hpair, hqueues, hair, hother, hown, hstore, htold⟩ :=
      downlinkDone_parts (hstart.trans (downlink_of_free hs))
    exact ⟨_, _, rfl, hbeside, hpair, hqueues, hair, hother, fun _ => ⟨rfl, hown, hstore, htold⟩,
      fun _ _ _ _ => ⟨nofun, nofun, nofun⟩⟩
  | joining =>
    obtain ⟨hbeside, hpair, hqueues, hair, hother, hown, hstore, htold⟩ :=
      downlinkDone_parts (hstart.trans (downlink_of_joining hs))
    exact ⟨_, _, rfl, hbeside, hpair, hqueues, hair, hother, nofun, fun i held hi hc =>
      ⟨fun _ => ⟨congrArg some (frameToSlot_of_contents _ hi hc), hown, hstore, htold⟩, nofun, nofun⟩⟩
  | leaving =>
    obtain ⟨hbeside, hpair, hqueues, hair, hother, hown, hstore, htold⟩ :=
      downlinkDone_parts (hstart.trans (downlink_of_leaving hs))
    exact ⟨_, _, rfl, hbeside, hpair, hqueues, hair, hother, nofun, fun i held hi hc =>
      ⟨nofun, fun _ => ⟨congrArg some (frameToSlot_of_contents _ hi hc), hown, hstore, htold⟩, nofun⟩⟩
  | streaming =>
    have hsent : ∀ (i : EntryId) (held : Contents) (b : Block) (repeated : Bool), s.slots[k].rosterIndex = some i →
        s.roster[i].contents = some held → some (frameToSlot k (downPayload s.slots[k] b repeated) s)
          = some ⟨held.declared.address, Config.partAddress, .down s.slots[k].downSequence (b.number.extractLsb' 0 16)
            repeated s.slots[k].lastAccepted b.samples⟩ := fun i held b repeated hi hc => by
      rw [frameToSlot_of_contents _ hi hc, downPayload_eq]
    cases hb : s.stores[k] with
    | cons b rest =>
      obtain ⟨hbeside, hpair, hqueues, hair, hother, hown, hstore, htold⟩ :=
        downlinkDone_parts (hstart.trans (downlink_of_block hs hb))
      refine ⟨_, _, rfl, hbeside, hpair, hqueues, hair, hother, nofun, fun i held hi hc =>
        ⟨nofun, nofun, fun _ => ⟨fun b' rest' hcons => ?_, nofun⟩⟩⟩
      cases hcons
      exact ⟨hstore, htold, hown, hsent i held b false hi hc⟩
    | nil =>
      obtain ⟨hbeside, hpair, hqueues, hair, hother, hown, hstore, htold⟩ :=
        downlinkDone_parts (hstart.trans (downlink_of_empty hs hb))
      refine ⟨_, _, rfl, hbeside, hpair, hqueues, hair, hother, nofun, fun i held hi hc =>
        ⟨nofun, nofun, fun _ => ⟨nofun, fun _ => ⟨hstore, htold, hown, fun b hl => ?_, fun hl => ?_⟩⟩⟩⟩
      · rw [hl]
        exact hsent i held b true hi hc
      · rw [hl]
        exact hsent i held (zeroBlock s.call.rate.samples) true hi hc

/-- Settles O30, by whether there is a candidate once slot 3 has been marked. -/
theorem spareSlotGoesInTurn : Obligations.SpareSlotGoesInTurn := by
  intro s h7
  have hiff := fun k => spareBegun_candidate_iff k s
  by_cases hc : ∃ k : SlotId, (spareBegun s).slots[k].retryCandidate = true
  · obtain ⟨k, hnext, hk, hfirst⟩ := nextCandidate_of_some hc
    have hlast : (spareBegun s).air.lastGranted = s.air.lastGranted :=
      slotBegun_lastGranted 8 _ _ s.air
    rw [hlast] at hfirst
    obtain ⟨hbeside, hpair, hqueues, hstores, htold, hslots, hair⟩ := airAndSlots_parts
      (((slotStart_of_seven h7).trans (grantSpare_of_some hnext)).trans (airAndSlots_again rfl _ _))
    refine ⟨slotStart s, rfl, hbeside, hpair, hqueues, hstores, htold, fun j => ?_, ?_,
      fun candidate hcandidate => ⟨fun hnone => ?_, fun _ => ⟨k, ?_, ?_, ?_, fun j => ?_,
        ⟨_, congrArg AirState.sent hair, fun i held hi hheld => ?_⟩, fun j hj => ?_⟩⟩⟩
    · rw [hslots, spareGranted_slot]
    · rw [hair]
      rfl
    · exact absurd ((hcandidate k).2 ((hiff k).1 hk)) (hnone k)
    · exact (hcandidate k).2 ((hiff k).1 hk)
    · rw [hair]
    · rw [hair]
    · rw [hslots, spareGranted_slot, Bool.and_eq_true, bne_iff_ne, hiff, hcandidate]
    · have hindex := (congrArg StreamSlot.rosterIndex (spareBegun_slot k s)).trans hi
      rw [slotAddress_of_contents hindex hheld]
      rfl
    · exact hfirst j ((hiff j).2 ((hcandidate j).1 hj))
  · have hnone : ∀ k : SlotId, (spareBegun s).slots[k].retryCandidate = false :=
      fun k => Bool.eq_false_iff.2 fun hk => hc ⟨k, hk⟩
    obtain ⟨hbeside, hpair, hqueues, hstores, htold, hslots, hair⟩ := airAndSlots_parts
      (((slotStart_of_seven h7).trans (grantSpare_of_none (nextCandidate_of_none hnone))).trans (spareBegun_of_none hnone))
    refine ⟨slotStart s, rfl, hbeside, hpair, hqueues, hstores, htold, fun j => ?_, ?_,
      fun candidate hcandidate => ⟨fun _ => ?_, fun ⟨k, hk⟩ => ?_⟩⟩
    · rw [hslots]
    · exact slotBegun_of_eq hair
    · rw [hair]
      exact ⟨rfl, slotBegun_lastGranted 8 _ _ s.air, rfl, hslots⟩
    · exact absurd ⟨k, (hiff k).2 ((hcandidate k).1 hk)⟩ hc
end

section
/-! The fill timeout, QUEUE_SET and STATS_GET (R90, R91, R96, R98, R178). -/

namespace Sys2Proof.Machine

open Sys2Proof

/-! ### The fill timeout (R90) -/

/-- The fill timeout has expired where R90 says: a waiting queue, an entry held, four quiet intervals. -/
theorem fillTimeoutDue_iff (q : RxQueue) :
    fillTimeoutDue q = true ↔ (q.state = .filling ∨ q.state = .starved) ∧ 4 ≤ q.quiet ∧ q.entries ≠ [] := by
  simp [fillTimeoutDue, and_assoc]

/-! ### QUEUE_SET (R96) -/

/-- The taking of a request whose numbers may be clamped, when it can be taken: the status tells of a clamp. -/
theorem takeRequest_clamped {kind tag : Byte} {body fields : List Byte} {answer : State → Answer} {s t : State} {clamped : Bool}
    (h : takeable ⟨kind, tag, body⟩ s) (ha : answer (dropRequest s) = answerClamped clamped fields (dropRequest t)) :
    takeRequest kind tag body answer s = replied (kind + 0x80) tag ((if clamped then 1 else 0) :: fields) t := by
  rw [takeRequest_of_takeable h, ha, answerClamped_body]; rfl

section
variable (start point : Byte) {slot : Byte} (s : State)

/-- Whether a clamp changes a level that QUEUE_SET makes of its bytes (R96). -/
def levelsClamped : Bool := clampNat 1 6 start.toNat != start.toNat || clampNat 1 6 point.toNat != point.toNat

/-- QUEUE_SET of one queue writes its levels (R96). -/
theorem queueSet_of_index {k : SlotId} (hk : indexOfByte 4 slot = some k) (h4 : slot.toNat ≠ 4) :
    queueSet [slot, start, point] s = answerClamped (levelsClamped start point) []
      (s.setQueue k (s.queues[k].withLevels (clampNat 1 6 start.toNat) (clampNat 1 6 point.toNat))) := by
  simp only [queueSet, if_neg h4, hk, levelsClamped]

/-- QUEUE_SET of ALL writes the levels of the four queues (R96). -/
theorem queueSet_of_all (h4 : slot.toNat = 4) :
    queueSet [slot, start, point] s = answerClamped (levelsClamped start point) []
      { s with queues := s.queues.map (RxQueue.withLevels (clampNat 1 6 start.toNat) (clampNat 1 6 point.toNat)) } := by
  simp only [queueSet, if_pos h4, levelsClamped]

/-- QUEUE_SET of another slot value is refused (R96). -/
theorem queueSet_of_bad_slot (h5 : 5 ≤ slot.toNat) : queueSet [slot, start, point] s = refuse .badArg s := by
  simp only [queueSet, if_neg (show slot.toNat ≠ 4 by omega), indexOfByte_of_le (show 4 ≤ slot.toNat by omega)]

/-- The status of QUEUE_SET is OK exactly when both levels are the bytes' own (R96). -/
theorem levelsClamped_status : (if levelsClamped start point then 1 else 0 : Byte)
    = if max 1 (min 6 start.toNat) = start.toNat ∧ max 1 (min 6 point.toNat) = point.toNat then 0 else 1 := by
  have hiff : levelsClamped start point = true
      ↔ ¬(max 1 (min 6 start.toNat) = start.toNat ∧ max 1 (min 6 point.toNat) = point.toNat) := by
    rw [levelsClamped, Bool.or_eq_true, bne_iff_ne, bne_iff_ne, not_and_or]
    rfl
  rw [if_congr hiff rfl rfl, ite_not]

end

/-! ### STATS_GET (R98, R178) -/

/-- The bytes of some numbers, four for each: byte `b` of number `n` (R173). -/
theorem getD_flatMap_bytes4 (numbers : List Nat) {n b : Nat} (hn : n < numbers.length) (hb : b < 4) :
    (numbers.flatMap bytes4).getD (4 * n + b) 0 = BitVec.ofNat 8 (numbers.getD n 0 / 256 ^ b) := by
  induction numbers generalizing n with
  | nil => exact absurd hn (Nat.not_lt_zero n)
  | cons m rest ih =>
    cases n with
    | zero =>
      match b, hb with
      | 0, _ => simp [bytes4]
      | 1, _ => simp [bytes4]
      | 2, _ => simp [bytes4]
      | 3, _ => simp [bytes4]
    | succ n =>
      have hplace : 4 * (n + 1) + b = 4 * n + b + 4 := by omega
      rw [hplace]
      exact ih (Nat.lt_of_succ_lt_succ hn)

/-- Each number takes four bytes. -/
theorem length_flatMap_bytes4 (numbers : List Nat) : (numbers.flatMap bytes4).length = 4 * numbers.length := by
  induction numbers with
  | nil => rfl
  | cons m rest ih => rw [List.flatMap_cons, List.length_append, ih]; simp [bytes4]; omega

/-- The seventeen numbers of a statistics body, in its order (Table 11.5). -/
def statsNumbers (q : RxQueue) (c : Converter) : List Nat :=
  [q.stats.acceptedArrivals, q.stats.duplicates, q.stats.lates, q.stats.overruns, q.stats.flushed, q.stats.consumed,
    q.stats.retriedArrivals, q.stats.retryDenials, q.stats.gapFilled, q.stats.starvedBlocks, q.stats.resyncs,
    q.stats.discontinuities, q.stats.downMisses, q.stats.windowsAccepted, q.stats.windowsRejected, c.baseStep, c.lastMeasured]

/-- A statistics body is its seventeen numbers, the depth and the queue's state, while the measured step fits four bytes. -/
theorem statsBytes_eq (q : RxQueue) {c : Converter} (h : c.lastMeasured < 2 ^ 32) :
    statsBytes q c = (statsNumbers q c).flatMap bytes4 ++ [BitVec.ofNat 8 q.entries.length, q.state.code] := by
  have hfits : measuredBytes c.lastMeasured = bytes4 c.lastMeasured := if_pos h
  rw [statsBytes, hfits]
  rfl

/-- The numbers of a statistics body, byte by byte behind its status (R178). -/
theorem statsBytes_getD (q : RxQueue) {c : Converter} (h : c.lastMeasured < 2 ^ 32) (n : Fin 17) (b : Fin 4) :
    ((0 : Byte) :: statsBytes q c).getD (1 + 4 * n.val + b.val) 0
      = BitVec.ofNat 8 ((statsNumbers q c).getD n.val 0 / 256 ^ b.val) := by
  have hlen : 4 * n.val + b.val < ((statsNumbers q c).flatMap bytes4).length := by
    have hn := n.isLt
    have hb := b.isLt
    rw [length_flatMap_bytes4]
    show 4 * n.val + b.val < 4 * 17
    omega
  rw [statsBytes_eq q h, Nat.add_assoc, Nat.add_comm 1, List.getD_cons_succ, List.getD_append _ _ _ _ hlen]
  exact getD_flatMap_bytes4 _ n.isLt b.isLt

/-- The last two bytes of a statistics body (R178). -/
theorem statsBytes_tail (q : RxQueue) {c : Converter} (h : c.lastMeasured < 2 ^ 32) (x : Byte) :
    ((0 : Byte) :: statsBytes q c).getD 69 x = BitVec.ofNat 8 q.entries.length
      ∧ ((0 : Byte) :: statsBytes q c).getD 70 x = q.state.code := by
  rw [statsBytes_eq q h]
  exact ⟨rfl, rfl⟩

end Sys2Proof.Machine

open Sys2Proof Sys2Proof.Machine

/-- Settles O35, by whether the fill timeout has expired. -/
theorem fillTimeoutStartsPlay : Obligations.FillTimeoutStartsPlay := fun _ _ =>
  ⟨fun h => congrArg _ (if_pos ((fillTimeoutDue_iff _).2 h)),
    fun h => congrArg _ (if_neg fun hd => h ((fillTimeoutDue_iff _).1 hd))⟩

/-- Settles O36: QUEUE_SET by its slot value, STATS_GET by its numbers. -/
theorem queueSetAndStatsGet : Obligations.QueueSetAndStatsGet := by
  refine ⟨fun tag slot start point s h => ⟨_, _, _, rfl, rfl, rfl, fun k hk => ?_, fun h4 => ?_, fun h5 => ?_⟩,
    fun tag s => ⟨fun slot h4 h => ?_, fun k h hm => ?_⟩⟩
  · subst hk
    have hne : (BitVec.ofNat 8 k.val).toNat ≠ 4 := by simp; omega
    rw [← levelsClamped_status]
    exact congrArg _ (takeRequest_clamped h
      (queueSet_of_index start point (dropRequest s) (indexOfByte_ofNat 4 k (by decide)) hne))
  · subst h4
    rw [← levelsClamped_status]
    exact congrArg _ (takeRequest_clamped h (queueSet_of_all start point (dropRequest s) rfl))
  · exact congrArg _ (takeRequest_refused h (queueSet_of_bad_slot start point (dropRequest s) h5))
  · have hget : statsGet [slot] (dropRequest s) = refuse .badArg (dropRequest s) := by
      simp only [statsGet, indexOfByte_of_le h4]
    exact congrArg _ (takeRequest_refused h hget)
  · have hget : statsGet [BitVec.ofNat 8 k.val] (dropRequest s)
        = answerOk (statsBytes s.queues[k] s.convs[k]) (dropRequest s) := by
      simp only [statsGet, indexOfByte_ofNat 4 k (by decide)]
      rfl
    obtain ⟨hdepth, -⟩ := statsBytes_tail s.queues[k] hm 0
    obtain ⟨-, hstate⟩ := statsBytes_tail s.queues[k] hm 9
    refine ⟨_, congrArg _ (takeRequest_answered h hget), ?_, rfl, statsBytes_getD s.queues[k] hm, hdepth, hstate⟩
    rw [statsBytes_eq _ hm]
    rfl
end

section
/-! What a stream gives to a block (R81, R88, R89, R99, R108 to R116). -/

namespace Sys2Proof.Machine

open Sys2Proof

/-! ### The output of a block (R109) -/

section
variable (n step : Nat) {r : Reader} (h : r.outReversed = [])
include h

/-- After `m` samples the output holds `m`. -/
theorem readSamples_out_length (m : Nat) : (readSamples n step m r).outReversed.length = m := by
  induction m with
  | zero => exact congrArg List.length h
  | succ m ih =>
    obtain ⟨x, hx⟩ := readSample_out n step (readSamples n step m r)
    rw [readSamples_succ, hx, List.length_cons, ih]

/-- The sample formed in place `i` stands there in the output. -/
theorem readSamples_out_getElem? {i m : Nat} (hi : i < m) :
    (readSamples n step (i + 1) r).outReversed.head? = (readSamples n step m r).outReversed.reverse[i]? := by
  induction m with
  | zero => exact absurd hi (Nat.not_lt_zero i)
  | succ m ih =>
    obtain ⟨x, hx⟩ := readSample_out n step (readSamples n step m r)
    have hlen := readSamples_out_length n step h m
    rw [readSamples_succ n step m, hx, List.reverse_cons]
    rcases Nat.lt_succ_iff_lt_or_eq.1 hi with hlt | rfl
    · rw [List.getElem?_append_left (by rwa [List.length_reverse, hlen])]
      exact ih hlt
    · rw [List.getElem?_append_right (by rw [List.length_reverse, hlen]), List.length_reverse, hlen, Nat.sub_self,
        readSamples_succ, hx]
      rfl

end

/-- A block begins with no output. -/
theorem blockBegun_out (n step : Nat) (c : Converter) (q : RxQueue) : (blockBegun n step c q).outReversed = [] := by
  unfold blockBegun
  split
  · split <;> rfl
  · rfl

/-! ### The completion of a block (R116) -/

/-- The completion of a block, field by field (R99, R116). -/
theorem completeBlock_eq (output : List Sample) (concealed usedFill : Bool) (c : Converter) (q : RxQueue) :
    completeBlock output concealed usedFill c q
      = ({ c with lastOutput := output, concealmentRun := if concealed then c.concealmentRun else 0 },
        { q with
          stats := { q.stats with
            starvedBlocks := if concealed then saturatingSucc max32 q.stats.starvedBlocks else q.stats.starvedBlocks }
          quality := q.quality.tail ++ [if concealed ∨ usedFill then .concealed else .good] }) := by
  cases concealed <;> cases usedFill <;> rfl

/-- The conversion of a block that begins in PLAYING: its samples read one after the other, and the block completed (R108 to R110,
R114, R116). -/
theorem convertPlaying_eq (n : Nat) (c : Converter) (q : RxQueue) :
    convertPlaying n c q
      = (let r := readSamples n (blockStep c q) n (blockBegun n (blockStep c q) c q)
         let done := completeBlock r.outReversed.reverse r.starved r.usedFill r.conv r.queue
         ⟨done.1, done.2, some r.outReversed.reverse, r.starved⟩) := by
  rw [blockBegun_eq]
  rfl

/-! ### Concealment from end to end (R113, R115) -/

/-- The conversion of a block that begins in STARVED: the samples concealed, and the block completed (R115, R116). -/
theorem convertStarved_eq (n : Nat) (c : Converter) (q : RxQueue) :
    convertStarved n c q
      = (let out := (List.range n).map (concealmentSample { c with concealmentRun := saturatingSucc 4 c.concealmentRun })
         ⟨{ c with lastOutput := out, concealmentRun := saturatingSucc 4 c.concealmentRun },
          { q with
            stats := { q.stats with starvedBlocks := saturatingSucc max32 q.stats.starvedBlocks }
            quality := q.quality.tail ++ [.concealed] },
          some out, false⟩) := rfl

/-- Each sample of a block concealed from end to end is half of the last output block's, and 0 from the fourth block on (R113,
R115). -/
theorem concealmentSample_next (c : Converter) (i : Nat) :
    concealmentSample { c with concealmentRun := saturatingSucc 4 c.concealmentRun } i
      = if c.concealmentRun < 3 then BitVec.ofInt 16 ((c.lastOutput.getD i 0).toInt.tdiv 2) else 0 := by
  have hrun : saturatingSucc 4 c.concealmentRun < 4 ↔ c.concealmentRun < 3 := by
    unfold saturatingSucc
    split <;> omega
  unfold concealmentSample
  simp only [hrun]
  rfl

end Sys2Proof.Machine

open Sys2Proof Sys2Proof.Machine

/-- Settles O40, by the state of the queue: in PLAYING the block is read sample by sample, in STARVED it is concealed whole. -/
theorem conversionGivesBlock : Obligations.ConversionGivesBlock := by
  refine fun n c q => ⟨fun hs => ?_, fun hs => ?_, fun hs => ?_⟩
  · rcases hs with hs | hs <;> rw [convertBlock, hs]
  · have hout := blockBegun_out n (blockStep c q) c q
    refine ⟨blockStep c q, fun i => readSamples n (blockStep c q) i (blockBegun n (blockStep c q) c q), _, rfl, rfl,
      fun i _ => ?_, (List.length_reverse ..).trans (readSamples_out_length n _ hout n),
      fun i hi => readSamples_out_getElem? n _ hout hi, ?_⟩
    · dsimp only
      rw [readSamples_succ]
      exact readSample_spec n _ _
    · have hplays : convertBlock n c q = convertPlaying n c q := by simp only [convertBlock, hs]
      rw [hplays, convertPlaying_eq]
      dsimp only
      rw [completeBlock_eq]
  · refine ⟨(List.range n).map (concealmentSample { c with concealmentRun := saturatingSucc 4 c.concealmentRun }),
      by rw [List.length_map, List.length_range], fun i hi => ?_, ?_⟩
    · rw [← concealmentSample_next, List.getD_eq_getElem _ _ (by rwa [List.length_map, List.length_range]), List.getElem_map,
        List.getElem_range]
    · have hstarved : convertBlock n c q = convertStarved n c q := by simp only [convertBlock, hs]
      exact hstarved.trans (convertStarved_eq n c q)
end

section
/-! What a stream holds, and what a conversion can do to it (R85 to R95, R109 to R117). -/

namespace Sys2Proof.Machine

open Sys2Proof

/-- What the laws of a stream look at in its queue and its converter: the entries held, the counts that R95 relates, and the current
frame. -/
@[ext] structure Stock where
  entries : List QueueEntry
  accepted : Nat
  consumed : Nat
  overruns : Nat
  flushed : Nat
  current : InFrame

/-- What a stream of this converter and this queue holds. -/
def stockOf (c : Converter) (q : RxQueue) : Stock where
  entries := q.entries
  accepted := q.stats.acceptedArrivals
  consumed := q.stats.consumed
  overruns := q.stats.overruns
  flushed := q.stats.flushed
  current := c.current

namespace Stock

/-- The holding of a stream that begins (R80, R101). -/
def empty : Stock := ⟨[], 0, 0, 0, 0, .none⟩

/-- The head of the queue read to its end: it leaves, and is counted (R88). -/
def consume (x : Stock) : Stock := { x with entries := x.entries.tail, consumed := bump x.consumed, current := .none }

/-- An arrival accepted: a full queue drops its oldest entry, and with it a current frame that is real (R85, R86). -/
def accept (e : QueueEntry) (x : Stock) : Stock :=
  { x with
    entries := (if 8 ≤ x.entries.length then x.entries.tail else x.entries) ++ [e]
    accepted := bump x.accepted
    overruns := if 8 ≤ x.entries.length then bump x.overruns else x.overruns
    current := if 8 ≤ x.entries.length ∧ x.current = .real then .none else x.current }

/-- A queue flushed, its converter out of STREAMING (R93, R101). -/
def flush (x : Stock) : Stock :=
  { x with entries := [], flushed := bumpBy x.entries.length x.flushed, current := .none }

/-- The entries are at most eight, of rising sequence, and the last of them is the last accepted (R94). -/
def Ordered (last : Option Sequence) (x : Stock) : Prop :=
  x.entries.length ≤ 8 ∧ x.entries.Pairwise (fun a b => newer b.sequence a.sequence = true)
    ∧ (x.entries ≠ [] → last = x.entries.getLast?.map QueueEntry.sequence)

/-- Every accepted arrival is accounted for, and a real current frame is an entry held (R95, R109). -/
def Conserved (x : Stock) : Prop :=
  (x.current = .real → x.entries ≠ [])
    ∧ (x.accepted < max32 → x.accepted = x.entries.length + x.consumed + x.overruns + x.flushed)

end Stock

/-! ### The moves of a conversion -/

/-- One move of a conversion: it makes some of these, one after the other, and nothing else of the holding changes. -/
inductive StockMove : Stock → Stock → Prop
  /-- The head of the queue becomes the current frame. -/
  | enter (x : Stock) (h : x.entries ≠ []) : StockMove x { x with current := .real }
  /-- A current frame that is not real takes the place of the one before. -/
  | leave (x : Stock) (f : InFrame) (h : f ≠ .real) : StockMove x { x with current := f }
  /-- The real current frame has been read. -/
  | consume (x : Stock) (h : x.current = .real) : StockMove x x.consume

/-- Moves of a conversion, one after the other. -/
abbrev StockMoves : Stock → Stock → Prop := Relation.ReflTransGen StockMove

theorem StockMoves.of_eq {x y : Stock} (h : y = x) : StockMoves x y := h ▸ .refl

/-- A count below its limit is one more. -/
theorem bump_of_lt {n : Nat} (h : n < max32) : bump n = n + 1 := if_pos h

/-- A count that stands below its limit after an addition stood one lower before it. -/
theorem eq_succ_of_bump_lt {n : Nat} (h : bump n < max32) : bump n = n + 1 := by
  unfold bump saturatingSucc at h ⊢
  split at h
  · next hn => exact if_pos hn
  · next hn => exact absurd h hn

/-- A move leaves the end of what the queue held. -/
theorem StockMove.suffix {x y : Stock} (m : StockMove x y) : y.entries <:+ x.entries := by
  cases m with
  | enter => exact List.suffix_refl _
  | leave => exact List.suffix_refl _
  | consume => exact List.tail_suffix _

theorem StockMoves.suffix {x y : Stock} (m : StockMoves x y) : y.entries <:+ x.entries := by
  induction m with
  | refl => exact List.suffix_refl _
  | tail _ m ih => exact m.suffix.trans ih

/-- The end of an ordered queue is ordered (R94). -/
theorem Stock.Ordered.suffix {last : Option Sequence} {x y : Stock} (h : x.Ordered last) (hs : y.entries <:+ x.entries) :
    y.Ordered last := by
  obtain ⟨hlen, hrising, hlast⟩ := h
  refine ⟨hs.length_le.trans hlen, hrising.sublist hs.sublist, fun hne => ?_⟩
  obtain ⟨front, hx⟩ := hs
  rw [← hx] at hlast
  rw [hlast (List.append_ne_nil_of_right_ne_nil front hne), List.getLast?_append_of_ne_nil _ hne]

/-- Every move keeps the account (R95). -/
theorem Stock.Conserved.move {x y : Stock} (h : x.Conserved) (m : StockMove x y) : y.Conserved := by
  obtain ⟨hreal, hsum⟩ := h
  cases m with
  | enter hne => exact ⟨fun _ => hne, hsum⟩
  | leave f hf => exact ⟨fun hc => absurd hc hf, hsum⟩
  | consume hc =>
    refine ⟨nofun, fun hlt => ?_⟩
    have hlen : 0 < x.entries.length := List.length_pos_of_ne_nil (hreal hc)
    have hbefore := hsum hlt
    have hcount : bump x.consumed = x.consumed + 1 := bump_of_lt (by have : x.accepted < max32 := hlt; omega)
    show x.accepted = x.entries.tail.length + bump x.consumed + x.overruns + x.flushed
    rw [List.length_tail, hcount]
    omega

theorem Stock.Conserved.moves {x y : Stock} (h : x.Conserved) (m : StockMoves x y) : y.Conserved := by
  induction m with
  | refl => exact h
  | tail _ m ih => exact ih.move m

/-! ### Frames entered and finished (R88, R109 to R113) -/

/-- What the stream of a reader holds. -/
def Reader.stock (r : Reader) : Stock := stockOf r.conv r.queue

/-- A queue with a head holds entries. -/
theorem stock_ne_nil {r : Reader} {e : QueueEntry} (h : r.queue.entries.head? = some e) : r.stock.entries ≠ [] :=
  fun hn => nomatch h.symm.trans (List.head?_eq_none_iff.2 hn)

/-- The finishing of the current frame consumes it when it is real (R88, R109). -/
theorem stock_finishCurrent (r : Reader) : StockMoves r.stock (finishCurrent r).stock := by
  unfold finishCurrent
  split
  · next h => exact .single (.consume r.stock h)
  · exact .single (.leave r.stock .none nofun)

theorem stock_starve (r : Reader) : StockMoves r.stock (starve r).stock := stock_finishCurrent r

theorem stock_enterFrame (n : Nat) (f : InFrame) (r : Reader) : StockMoves r.stock (enterFrame n f r).stock := by
  unfold enterFrame
  split
  · exact .single (.leave r.stock .none nofun)
  · split
    · exact .single (.leave r.stock .none nofun)
    · next e he => exact .single (.enter r.stock (stock_ne_nil he))
  · next samples => exact .single (.leave r.stock (.fill samples) nofun)

/-- The choice of a frame changes nothing that is held (R110, R111). -/
theorem stock_chooseNext {n : Nat} {r chosen : Reader} {f : InFrame} (h : chooseNext n r = some (f, chosen)) :
    chosen.stock = r.stock := by
  unfold chooseNext at h
  split at h
  · cases h; rfl
  · split at h
    · cases h
    · split at h
      · cases h; rfl
      · split at h
        · cases h; rfl
        · split at h <;> (cases h; rfl)

theorem stock_enterNext (n : Nat) (r : Reader) : StockMoves r.stock (enterNext n r).stock := by
  unfold enterNext
  split
  · split
    · exact stock_starve r
    · next f chosen hc => exact stock_chooseNext hc ▸ stock_enterFrame n f chosen
  · exact stock_enterFrame n _ r

theorem stock_chooseFollower (n : Nat) (r : Reader) : StockMoves r.stock (chooseFollower n r).stock := by
  unfold chooseFollower
  split
  · exact stock_starve r
  · next f chosen hc =>
    have hchosen : chosen.stock = r.stock := stock_chooseNext hc
    exact .of_eq hchosen

theorem stock_readyFrames (n : Nat) (r : Reader) : StockMoves r.stock (readyFrames n r).stock := by
  have hstands : StockMoves r.stock (if r.conv.current = .none then enterNext n r else r).stock := by
    split
    · exact stock_enterNext n r
    · exact .refl
  unfold readyFrames
  generalize (if r.conv.current = .none then enterNext n r else r) = stands at hstands
  dsimp only
  split
  · exact hstands
  · split
    · exact hstands
    · split
      · exact hstands.trans (stock_chooseFollower n _)
      · exact hstands

/-- The advance of the read position; neither the position nor the output is part of what is held (R109). -/
theorem stock_advance (n step : Nat) {r : Reader} {x : Stock} (h : r.stock = x) : StockMoves x (advance n step r).stock := by
  subst h
  unfold advance
  dsimp only
  split
  · exact .refl
  · have hfinished := stock_finishCurrent { r with
      conv := { r.conv with
        index := r.conv.index + (r.conv.fraction + step) / 16777216 - n
        fraction := (r.conv.fraction + step) % 16777216 } }
    split
    · exact hfinished
    · exact hfinished.trans (stock_enterFrame n _ _)

/-! ### Blocks (R108 to R117) -/

theorem stock_readSample (n step : Nat) (r : Reader) : StockMoves r.stock (readSample n step r).stock := by
  unfold readSample
  dsimp only
  split
  · exact .refl
  · split
    · exact stock_readyFrames n r
    · exact (stock_readyFrames n r).trans (stock_advance n step rfl)

theorem stock_readSamples (n step count : Nat) (r : Reader) : StockMoves r.stock (readSamples n step count r).stock := by
  induction count generalizing r with
  | zero => exact .refl
  | succ k ih => exact (stock_readSample n step r).trans (ih _)

theorem stock_freshStart (n : Nat) (r : Reader) : StockMoves r.stock (freshStart n r).stock := by
  unfold freshStart
  split
  · exact .refl
  · next e he => exact .single (.enter r.stock (stock_ne_nil he))

/-- The completion of a block changes nothing that is held (R116). -/
theorem stockOf_completeBlock (output : List Sample) (concealed usedFill : Bool) (c : Converter) (q : RxQueue) :
    stockOf (completeBlock output concealed usedFill c q).1 (completeBlock output concealed usedFill c q).2 = stockOf c q := by
  rw [completeBlock_eq]
  rfl

/-- A conversion makes moves alone (R81, R88, R109, R114, R115). -/
theorem stock_convertBlock (n : Nat) (c : Converter) (q : RxQueue) :
    StockMoves (stockOf c q) (stockOf (convertBlock n c q).conv (convertBlock n c q).queue) := by
  cases hs : q.state with
  | stopped => simp only [convertBlock, hs]; exact .refl
  | filling => simp only [convertBlock, hs]; exact .refl
  | playing =>
    simp only [convertBlock, hs, convertPlaying]
    rw [stockOf_completeBlock]
    refine Relation.ReflTransGen.trans ?_ (stock_readSamples n (blockStep c q) n _)
    split
    · exact stock_freshStart n ⟨{ c with appliedStep := blockStep c q }, q, [], false, false⟩
    · exact .refl
  | starved =>
    simp only [convertBlock, hs, convertStarved]
    exact .of_eq (stockOf_completeBlock _ _ _ _ _)

end Sys2Proof.Machine
end

section
/-! An arrival and a flush, for what a stream holds (R85, R86, R93 to R95). -/

namespace Sys2Proof.Machine

open Sys2Proof

/-- A sequence newer than both ends of a rising run that spans less than half the circle is newer than what lies between (R94). -/
theorem newer_of_between {head mid tail e : Sequence} (hm : newer mid head = true) (ht : tail = mid ∨ newer tail mid = true)
    (hth : newer tail head = true) (hte : newer e tail = true) (heh : newer e head = true) : newer e mid = true := by
  simp only [newer, Bool.and_eq_true, decide_eq_true_eq] at *
  rcases ht with rfl | ht
  · exact hte
  · bv_omega

/-- Of two sequences, one is newer at most. -/
theorem newer_asymm {a b : Sequence} (h : newer a b = true) : newer b a ≠ true := by
  intro h'
  simp only [newer, Bool.and_eq_true, decide_eq_true_eq] at h h'
  bv_omega

namespace Stock

/-- The entries that stay in the queue when another arrives (R86). -/
def kept (x : Stock) : List QueueEntry := if 8 ≤ x.entries.length then x.entries.tail else x.entries

theorem kept_suffix (x : Stock) : x.kept <:+ x.entries := by
  unfold kept
  split
  · exact List.tail_suffix _
  · exact List.suffix_refl _

/-- The entries that stay leave room for one (R86). -/
theorem kept_length {x : Stock} (h : x.entries.length ≤ 8) : x.kept.length + 1 ≤ 8 := by
  unfold kept
  split
  · rw [List.length_tail]; omega
  · omega

/-- In an ordered queue every entry but the last is older than the last accepted sequence (R94). -/
theorem Ordered.last_newer {last : Option Sequence} {x : Stock} (h : x.Ordered last) {m : QueueEntry} (hm : m ∈ x.entries) :
    ∃ a : Sequence, last = some a ∧ (a = m.sequence ∨ newer a m.sequence = true) := by
  obtain ⟨-, hrising, hlast⟩ := h
  have hne : x.entries ≠ [] := List.ne_nil_of_mem hm
  refine ⟨(x.entries.getLast hne).sequence, ?_, ?_⟩
  · rw [hlast hne, List.getLast?_eq_some_getLast hne]
    rfl
  · rw [← List.dropLast_append_getLast hne] at hm hrising
    obtain ⟨-, -, holder⟩ := List.pairwise_append.1 hrising
    rcases List.mem_append.1 hm with hm | hm
    · exact .inr (holder m hm _ (List.mem_singleton_self _))
    · exact .inl (congrArg QueueEntry.sequence (List.mem_singleton.1 hm).symm)

/-- A sequence newer than the last accepted and than the oldest entry is newer than every entry of an ordered queue (R83, R94). -/
theorem Ordered.newer_all {last : Option Sequence} {x : Stock} {e : Sequence} (h : x.Ordered last)
    (hn : ∀ a : Sequence, last = some a ∨ x.entries.head?.map QueueEntry.sequence = some a → newer e a = true)
    {m : QueueEntry} (hm : m ∈ x.entries) : newer e m.sequence = true := by
  obtain ⟨a, ha, hma⟩ := h.last_newer hm
  have hea := hn a (.inl ha)
  obtain ⟨-, hrising, -⟩ := id h
  cases hx : x.entries with
  | nil => rw [hx] at hm; cases hm
  | cons first rest =>
    have hef := hn first.sequence (.inr (by rw [hx]; rfl))
    rw [hx] at hm hrising
    rcases List.mem_cons.1 hm with rfl | hrest
    · exact hef
    · obtain ⟨hfirst, -⟩ := List.pairwise_cons.1 hrising
      have hmf := hfirst m hrest
      obtain ⟨b, hb, hfb⟩ := h.last_newer (m := first) (by rw [hx]; exact List.mem_cons_self)
      cases ha.symm.trans hb
      rcases hfb with rfl | hfb
      · exact hma.elim (fun he => he ▸ hef) fun hma => absurd hmf (newer_asymm hma)
      · exact newer_of_between hmf hma hfb hea hef

/-- An arrival newer than the last accepted and than the oldest entry keeps the order, and is the last accepted then (R83, R94). -/
theorem Ordered.accept {last : Option Sequence} {x : Stock} {e : QueueEntry} (h : x.Ordered last)
    (hn : ∀ a : Sequence, last = some a ∨ x.entries.head?.map QueueEntry.sequence = some a → newer e.sequence a = true) :
    (x.accept e).Ordered (some e.sequence) := by
  have hsub := x.kept_suffix
  obtain ⟨hlen, hrising, -⟩ := id h
  refine ⟨?_, ?_, fun _ => ?_⟩
  · show (x.kept ++ [e]).length ≤ 8
    rw [List.length_append]
    exact kept_length hlen
  · refine List.pairwise_append.2 ⟨hrising.sublist hsub.sublist, List.pairwise_singleton _ _, fun m hm b hb => ?_⟩
    rw [List.mem_singleton.1 hb]
    exact h.newer_all hn (hsub.subset hm)
  · show some e.sequence = (x.kept ++ [e]).getLast?.map QueueEntry.sequence
    rw [List.getLast?_concat]
    rfl

/-- An accepted arrival is accounted for: it is held, and an entry dropped for it is an overrun (R85, R86, R95). -/
theorem Conserved.accept {x : Stock} (e : QueueEntry) (h : x.Conserved) : (x.accept e).Conserved := by
  obtain ⟨-, hsum⟩ := h
  refine ⟨fun _ => List.append_ne_nil_of_right_ne_nil _ (List.cons_ne_nil e []), fun hlt => ?_⟩
  have hcount : bump x.accepted = x.accepted + 1 := eq_succ_of_bump_lt hlt
  have hbelow : x.accepted < max32 := by
    have : bump x.accepted < max32 := hlt
    omega
  have hbefore := hsum hbelow
  show bump x.accepted = (x.kept ++ [e]).length + x.consumed
    + (if 8 ≤ x.entries.length then bump x.overruns else x.overruns) + x.flushed
  rw [hcount, List.length_append, List.length_singleton, kept]
  split
  · have hover : bump x.overruns = x.overruns + 1 := bump_of_lt (by omega)
    rw [List.length_tail, hover]
    omega
  · omega

/-- A flush is accounted for (R93, R95). -/
theorem Conserved.flush {x : Stock} (h : x.Conserved) : x.flush.Conserved := by
  obtain ⟨-, hsum⟩ := h
  refine ⟨nofun, fun hlt => ?_⟩
  have hbelow : x.accepted < max32 := hlt
  have hbefore := hsum hbelow
  show x.accepted = 0 + x.consumed + x.overruns + min max32 (x.flushed + x.entries.length)
  omega

/-- An empty queue is in order, whatever was accepted last (R94). -/
theorem ordered_of_nil {x : Stock} (h : x.entries = []) (last : Option Sequence) : x.Ordered last := by
  unfold Ordered
  rw [h]
  exact ⟨Nat.zero_le _, .nil, fun hne => absurd rfl hne⟩

theorem conserved_empty : empty.Conserved := ⟨nofun, fun _ => rfl⟩

end Stock

end Sys2Proof.Machine
end

section
/-! The members of a voice, as slots leave it and are bound to it (R138 to R140). -/

namespace Sys2Proof.Machine

open Sys2Proof

namespace Voice

/-- A member stands in one of the three member fields. -/
theorem hasMember_iff (k : SlotId) (v : Voice) :
    v.hasMember k = true ↔ v.left = some k ∨ v.right = some k ∨ v.mono = some k := by
  simp [hasMember, or_assoc]

/-- Two voices bound to the same set with the same members, whatever their modes and their elections. -/
def SameMembers (v w : Voice) : Prop := w.boundTo = v.boundTo ∧ w.left = v.left ∧ w.right = v.right ∧ w.mono = v.mono

theorem SameMembers.refl (v : Voice) : v.SameMembers v := ⟨rfl, rfl, rfl, rfl⟩

theorem SameMembers.hasMember {v w : Voice} (h : v.SameMembers w) (k : SlotId) : w.hasMember k = v.hasMember k := by
  obtain ⟨-, hl, hr, hm⟩ := h
  simp only [Voice.hasMember, hl, hr, hm]

theorem SameMembers.fit {v w : Voice} (h : v.SameMembers w) : membersFit w = membersFit v := by
  obtain ⟨hb, hl, hr, hm⟩ := h
  simp only [membersFit, hb, hl, hr, hm]

/-! ### The removal of a member (R139) -/

/-- A slot removed is a member no more, and the other members stay (R139). -/
theorem hasMember_voiceWithout (j k : SlotId) (v : Voice) :
    (voiceWithout k v).hasMember j = true ↔ v.hasMember j = true ∧ j ≠ k := by
  have hfield : ∀ m : Option SlotId, (if m = some k then none else m) = some j ↔ m = some j ∧ j ≠ k := by
    intro m
    split
    · next hm => rw [hm]; simpa using fun h => h.symm
    · next hm => exact ⟨fun h => ⟨h, fun hj => hm (hj ▸ h)⟩, And.left⟩
  rw [hasMember_iff, hasMember_iff]
  unfold voiceWithout
  split
  · rw [hfield, hfield, hfield, or_and_right, or_and_right]
  · next hk => exact ⟨fun h => ⟨h, fun hj => hk (hj ▸ h)⟩, And.left⟩

/-- The members left fit the set, and a voice with none left is FREE (R139, R140). -/
theorem membersFit_voiceWithout (k : SlotId) {v : Voice} (h : membersFit v = true) : membersFit (voiceWithout k v) = true := by
  unfold voiceWithout
  split
  · next hk =>
    cases hb : v.boundTo with
    | none => simp_all [membersFit]
    | some set =>
      cases set with
      | mono => simp_all [membersFit]
      | numbered id =>
        simp [membersFit, hb] at h ⊢
        grind
  · exact h

/-! ### The binding of a member (R138) -/

/-- Whether a voice takes a stream of a place: it awaits it, or it is FREE (R138). -/
def takes (p : Place) (v : Voice) : Prop := awaits p v = true ∨ v.boundTo = none

/-- A FREE voice has no members (R140). -/
theorem members_none {v : Voice} (h : membersFit v = true) (hb : v.boundTo = none) :
    v.left = none ∧ v.right = none ∧ v.mono = none := by
  simpa [membersFit, hb, and_assoc] using h

/-- A slot bound is one more member (R138). -/
theorem hasMember_bindMember_iff {p : Place} {k : SlotId} {v : Voice} (hf : membersFit v = true) (ht : v.takes p) (j : SlotId) :
    (v.bindMember p k).hasMember j = true ↔ v.hasMember j = true ∨ j = k := by
  rw [hasMember_iff, hasMember_iff]
  unfold bindMember
  split
  · next hb =>
    obtain ⟨hl, hr, hm⟩ := members_none hf hb
    cases p <;> simp [addMember, withoutWinner, hl, hr, hm, eq_comm]
  · next hb =>
    have ha := ht.resolve_right hb
    cases p <;> simp [awaits] at ha <;> simp [addMember, ha, eq_comm, or_comm, or_left_comm]

/-- A slot that is no member yet, bound to a voice that takes it, fits the set (R138, R140). -/
theorem membersFit_bindMember {p : Place} {k : SlotId} {v : Voice} (hf : membersFit v = true) (ht : v.takes p)
    (hk : v.hasMember k ≠ true) : membersFit (v.bindMember p k) = true := by
  rw [Ne, hasMember_iff, not_or, not_or] at hk
  obtain ⟨hl, hr, -⟩ := hk
  unfold bindMember
  split
  · next hb =>
    obtain ⟨hl, hr, hm⟩ := members_none hf hb
    cases p <;> simp [membersFit, addMember, withoutWinner, Place.voiceSet, hl, hr, hm]
  · next hb =>
    have ha := ht.resolve_right hb
    cases p with
    | left id =>
      obtain ⟨hset, -⟩ : v.boundTo = some (.numbered id) ∧ v.left = none := by simpa [awaits] using ha
      obtain ⟨⟨hm, -⟩, -⟩ := by simpa only [membersFit, hset, Bool.and_eq_true, beq_iff_eq] using hf
      simpa [membersFit, addMember, hset, hm] using fun h => hr h.symm
    | right id =>
      obtain ⟨hset, -⟩ : v.boundTo = some (.numbered id) ∧ v.right = none := by simpa [awaits] using ha
      obtain ⟨⟨hm, -⟩, -⟩ := by simpa only [membersFit, hset, Bool.and_eq_true, beq_iff_eq] using hf
      simpa [membersFit, addMember, hset, hm] using .inr hl
    | mono => cases ha

/-- The voice that a new stream takes takes it (R138). -/
theorem takes_of_voiceFor {p : Place} {voices : Vector Voice 2} {i : VoiceId} (h : voiceFor p voices = some i) :
    voices[i].takes p := by
  unfold voiceFor at h
  rcases Option.or_eq_some_iff.1 h with h | ⟨-, h⟩
  · exact .inl (by simpa using List.find?_some h)
  · exact .inr (by simpa using List.find?_some h)

end Voice

/-- The forming of a voice leaves its members (R142, R143). -/
theorem sameMembers_formVoice (queues : Vector RxQueue 4) (outputs : StreamOutputs) (v : Voice) :
    v.SameMembers (formVoice queues outputs v).voice := by
  have helect : ∀ m : Present, v.SameMembers (electOne m v).voice := fun m => by
    unfold electOne
    split
    · exact .refl v
    · split <;> exact .refl v
  unfold formVoice
  split
  · exact .refl v
  · split <;> exact .refl v
  · unfold formSet
    split
    · exact .refl v
    · split
      · exact helect _
      · exact .refl v
    · split
      · exact helect _
      · exact .refl v
    · split
      · exact .refl v
      · exact .refl v
      · exact .refl v
      · unfold electBoth
        split
        · exact .refl v
        · dsimp only
          split <;> split <;> exact .refl v

end Sys2Proof.Machine
end

section
/-! What the laws of the streams look at, and the moves by which a command can change it (R94, R95, R139, R140). -/

namespace Sys2Proof.Machine

open Sys2Proof

/-! ### The view -/

/-- What the laws of the streams look at: of each stream slot its state, its last accepted sequence and what its stream holds, and the
voices. -/
@[ext] structure StreamView where
  slot : SlotId → SlotState
  last : SlotId → Option Sequence
  stock : SlotId → Stock
  voice : VoiceId → Voice

/-- The view of a state. -/
def streamView (s : State) : StreamView where
  slot := fun k => s.slots[k].state
  last := fun k => s.slots[k].lastAccepted
  stock := fun k => stockOf s.convs[k] s.queues[k]
  voice := fun i => s.voices[i]

namespace StreamView

/-- The view with another holding of slot `k`'s stream. -/
def setStock (k : SlotId) (x : Stock) (v : StreamView) : StreamView := { v with stock := Function.update v.stock k x }

/-- The view with slot `k` in another state, another sequence last accepted. -/
def setSlot (k : SlotId) (st : SlotState) (last : Option Sequence) (v : StreamView) : StreamView :=
  { v with slot := Function.update v.slot k st, last := Function.update v.last k last }

/-- Slot `k`'s stream is over: its queue holds nothing, and no voice has it as a member (R66). -/
def Ended (k : SlotId) (v : StreamView) : Prop := (v.stock k).entries = [] ∧ ∀ i : VoiceId, (v.voice i).hasMember k ≠ true

/-- At most eight entries of rising sequence, the last of them the last accepted; none outside STREAMING (R94). -/
def QueueLaw (v : StreamView) : Prop :=
  ∀ k : SlotId, (v.stock k).Ordered (v.last k) ∧ (v.slot k ≠ .streaming → (v.stock k).entries = [])

/-- Every accepted arrival is accounted for (R95). -/
def ConservationLaw (v : StreamView) : Prop := ∀ k : SlotId, (v.stock k).Conserved

/-- The members of each voice fit its set and are STREAMING, and no slot is a member of two voices (R139, R140). -/
def VoiceLaw (v : StreamView) : Prop :=
  (∀ i : VoiceId, membersFit (v.voice i) = true)
    ∧ (∀ (i j : VoiceId) (k : SlotId), (v.voice i).hasMember k = true → (v.voice j).hasMember k = true → i = j)
    ∧ (∀ (i : VoiceId) (k : SlotId), (v.voice i).hasMember k = true → v.slot k = .streaming)

end StreamView

/-- The queues' law is one of the view. -/
theorem queueLaw_iff (s : State) : queueLaw s ↔ (streamView s).QueueLaw :=
  forall_congr' fun _ => ⟨fun ⟨hlen, hrising, hlast, hnone⟩ => ⟨⟨hlen, hrising, hlast⟩, hnone⟩,
    fun ⟨⟨hlen, hrising, hlast⟩, hnone⟩ => ⟨hlen, hrising, hlast, hnone⟩⟩

/-- The law of conservation is one of the view. -/
theorem conservationLaw_iff (s : State) : conservationLaw s ↔ (streamView s).ConservationLaw := Iff.rfl

/-- The voices' law is one of the view. -/
theorem voiceLaw_iff (s : State) : voiceLaw s ↔ (streamView s).VoiceLaw := by
  refine and_congr Iff.rfl (and_congr ⟨fun h i j k hi hj => ?_, fun h k ⟨hi, hj⟩ => ?_⟩ Iff.rfl)
  · match i, j with
    | 0, 0 => rfl
    | 1, 1 => rfl
    | 0, 1 => exact absurd ⟨hi, hj⟩ (h k)
    | 1, 0 => exact absurd ⟨hj, hi⟩ (h k)
  · exact absurd (h 0 1 k hi hj) (by decide)

/-! ### The moves -/

/-- One move of the view: every command makes some of these, one after the other, and nothing else. -/
inductive StreamMove : StreamView → StreamView → Prop
  /-- Frames are read from the queues, or given up. -/
  | read (v : StreamView) (x : SlotId → Stock) (h : ∀ k : SlotId, StockMoves (v.stock k) (x k)) :
      StreamMove v { v with stock := x }
  /-- A STREAMING slot accepts an arrival newer than the last accepted and than the oldest entry held. -/
  | accept (v : StreamView) (k : SlotId) (e : QueueEntry) (hs : v.slot k = .streaming)
      (hn : ∀ a : Sequence, v.last k = some a ∨ (v.stock k).entries.head?.map QueueEntry.sequence = some a →
        newer e.sequence a = true) :
      StreamMove v ((v.setSlot k .streaming (some e.sequence)).setStock k ((v.stock k).accept e))
  /-- A stream begins in a slot that was not STREAMING, and no voice or one that takes it has it as a member. -/
  | begin (v : StreamView) (k : SlotId) (voice : VoiceId → Voice) (hs : v.slot k ≠ .streaming)
      (hv : voice = v.voice ∨ ∃ (i : VoiceId) (p : Place), (v.voice i).takes p
        ∧ voice = Function.update v.voice i ((v.voice i).bindMember p k)) :
      StreamMove v { (v.setSlot k .streaming none).setStock k .empty with voice := voice }
  /-- A stream ends: its queue is flushed, and its voice loses it. -/
  | flush (v : StreamView) (k : SlotId) :
      StreamMove v { v.setStock k (v.stock k).flush with voice := fun i => voiceWithout k (v.voice i) }
  /-- A slot without a stream goes on to a state outside STREAMING. -/
  | rest (v : StreamView) (k : SlotId) (st : SlotState) (last : Option Sequence) (hst : st ≠ .streaming)
      (h : v.slot k ≠ .streaming ∨ v.Ended k) : StreamMove v (v.setSlot k st last)
  /-- The voices hold elections, or change their modes. -/
  | elect (v : StreamView) (voice : VoiceId → Voice) (h : ∀ i : VoiceId, (v.voice i).SameMembers (voice i)) :
      StreamMove v { v with voice := voice }
  /-- The part is reset. -/
  | reset (v : StreamView) : StreamMove v (streamView State.reset)

/-! ### What the moves keep -/

namespace StreamView

/-- Every move keeps the queues' law (R94). -/
theorem QueueLaw.move {v w : StreamView} (h : v.QueueLaw) (m : StreamMove v w) : w.QueueLaw := by
  cases m with
  | read x hx =>
    intro k
    obtain ⟨hord, hnone⟩ := h k
    exact ⟨hord.suffix (hx k).suffix, fun hs => List.suffix_nil.1 (hnone hs ▸ (hx k).suffix)⟩
  | accept k e hs hn =>
    intro j
    simp only [setSlot, setStock, Function.update_apply]
    split
    · next hj => exact ⟨(h k).1.accept hn, fun hne => absurd rfl hne⟩
    · exact h j
  | begin k voice hs hv =>
    intro j
    simp only [setSlot, setStock, Function.update_apply]
    split
    · exact ⟨Stock.ordered_of_nil rfl _, fun _ => rfl⟩
    · exact h j
  | flush k =>
    intro j
    simp only [setStock, Function.update_apply]
    split
    · exact ⟨Stock.ordered_of_nil rfl _, fun _ => rfl⟩
    · exact h j
  | rest k st last hst hk =>
    have hnil : (v.stock k).entries = [] := hk.elim (h k).2 And.left
    intro j
    simp only [setSlot, Function.update_apply]
    split
    · next hj => subst hj; exact ⟨Stock.ordered_of_nil hnil _, fun _ => hnil⟩
    · exact h j
  | elect => exact h
  | reset =>
    obtain ⟨-, -, -, -, -, -, hlaw, -⟩ := resetKeepsEveryLaw
    exact (queueLaw_iff _).1 hlaw

/-- Every move keeps the law of conservation (R95). -/
theorem ConservationLaw.move {v w : StreamView} (h : v.ConservationLaw) (m : StreamMove v w) : w.ConservationLaw := by
  have hset : ∀ (k : SlotId) {x : Stock}, x.Conserved → (v.setStock k x).ConservationLaw := by
    intro k x hx j
    simp only [setStock, Function.update_apply]
    split
    · exact hx
    · exact h j
  cases m with
  | read x hx => exact fun k => (h k).moves (hx k)
  | accept k e hs hn => exact hset k ((h k).accept e)
  | begin k voice hs hv => exact hset k Stock.conserved_empty
  | flush k => exact hset k (h k).flush
  | rest => exact h
  | elect => exact h
  | reset =>
    obtain ⟨-, -, -, -, -, -, -, hlaw, -⟩ := resetKeepsEveryLaw
    exact hlaw

/-- The voices' law stands when a slot that was not STREAMING begins to stream and a voice that takes it binds it (R138). -/
theorem VoiceLaw.bind {v : StreamView} (h : v.VoiceLaw) {k : SlotId} (hk : v.slot k ≠ .streaming) {i : VoiceId} {p : Place}
    (ht : (v.voice i).takes p) (last : Option Sequence) (x : Stock) :
    VoiceLaw { (v.setSlot k .streaming last).setStock k x with
      voice := Function.update v.voice i ((v.voice i).bindMember p k) } := by
  obtain ⟨hfit, hone, hstream⟩ := h
  have hnew : ∀ j : VoiceId, (v.voice j).hasMember k ≠ true := fun j hj => hk (hstream j k hj)
  have hmember : ∀ (j : VoiceId) (l : SlotId),
      (Function.update v.voice i ((v.voice i).bindMember p k) j).hasMember l = true
        ↔ (v.voice j).hasMember l = true ∨ (j = i ∧ l = k) := by
    intro j l
    rw [Function.update_apply]
    split
    · next hj => rw [Voice.hasMember_bindMember_iff (hfit i) ht, hj]; simp
    · next hj => simp [hj]
  refine ⟨fun j => ?_, fun j l n hj hl => ?_, fun j l hj => ?_⟩
  · dsimp only
    rw [Function.update_apply]
    split
    · exact Voice.membersFit_bindMember (hfit i) ht (hnew i)
    · exact hfit j
  · rcases (hmember j n).1 hj with hj | ⟨hji, hjk⟩
    · rcases (hmember l n).1 hl with hl | ⟨-, hlk⟩
      · exact hone j l n hj hl
      · exact absurd (hlk ▸ hj) (hnew j)
    · rcases (hmember l n).1 hl with hl | ⟨hli, -⟩
      · exact absurd (hjk ▸ hl) (hnew l)
      · exact hji.trans hli.symm
  · simp only [setSlot, setStock, Function.update_apply]
    split
    · rfl
    · next hl => exact hstream j l (((hmember j l).1 hj).resolve_right fun h => hl h.2)

/-- Every move keeps the voices' law (R139, R140). -/
theorem VoiceLaw.move {v w : StreamView} (h : v.VoiceLaw) (m : StreamMove v w) : w.VoiceLaw := by
  obtain ⟨hfit, hone, hstream⟩ := id h
  cases m with
  | read => exact h
  | accept k e hs hn =>
    refine ⟨hfit, hone, fun i j hj => ?_⟩
    simp only [setSlot, setStock, Function.update_apply]
    split
    · rfl
    · exact hstream i j hj
  | begin k voice hs hv =>
    rcases hv with rfl | ⟨i, p, ht, rfl⟩
    · refine ⟨hfit, hone, fun i j hj => ?_⟩
      simp only [setSlot, setStock, Function.update_apply]
      split
      · rfl
      · exact hstream i j hj
    · exact h.bind hs ht _ _
  | flush k =>
    have hleft : ∀ (i : VoiceId) (j : SlotId), (voiceWithout k (v.voice i)).hasMember j = true → (v.voice i).hasMember j = true :=
      fun i j hj => ((Voice.hasMember_voiceWithout j k _).1 hj).1
    exact ⟨fun i => Voice.membersFit_voiceWithout k (hfit i), fun i j l hi hj => hone i j l (hleft i l hi) (hleft j l hj),
      fun i j hj => hstream i j (hleft i j hj)⟩
  | rest k st last hst hk =>
    have hnone : ∀ i : VoiceId, (v.voice i).hasMember k ≠ true := fun i hi => hk.elim (· (hstream i k hi)) fun he => he.2 i hi
    refine ⟨hfit, hone, fun i j hj => ?_⟩
    simp only [setSlot, Function.update_apply]
    split
    · next hjk => exact absurd (hjk ▸ hj) (hnone i)
    · exact hstream i j hj
  | elect voice hv =>
    have hold : ∀ (i : VoiceId) (k : SlotId), (voice i).hasMember k = true → (v.voice i).hasMember k = true :=
      fun i k hk => (hv i).hasMember k ▸ hk
    exact ⟨fun i => (hv i).fit.trans (hfit i), fun i j k hi hj => hone i j k (hold i k hi) (hold j k hj),
      fun i k hk => hstream i k (hold i k hk)⟩
  | reset =>
    obtain ⟨-, -, -, -, -, -, -, -, -, -, -, hlaw, -⟩ := resetKeepsEveryLaw
    exact (voiceLaw_iff _).1 hlaw

end StreamView

/-! ### Moves one after the other -/

/-- From the one state to the other the streams make moves alone. -/
def StreamMoves (s t : State) : Prop := Relation.ReflTransGen StreamMove (streamView s) (streamView t)

/-- With the view unchanged no move is made. -/
theorem StreamMoves.of_view {s t : State} (h : streamView t = streamView s) : StreamMoves s t := by
  rw [StreamMoves, h]

theorem StreamMoves.refl (s : State) : StreamMoves s s := .of_view rfl

theorem StreamMoves.trans {s t u : State} (h : StreamMoves s t) (g : StreamMoves t u) : StreamMoves s u :=
  Relation.ReflTransGen.trans h g

/-- One move. -/
theorem StreamMoves.single {s t : State} {w : StreamView} (m : StreamMove (streamView s) w) (h : streamView t = w) :
    StreamMoves s t := Relation.ReflTransGen.single (h ▸ m)

/-- What every move keeps, moves one after the other keep. -/
theorem StreamMoves.keep {P : StreamView → Prop} (hP : ∀ {v w : StreamView}, P v → StreamMove v w → P w) {s t : State}
    (h : StreamMoves s t) (hs : P (streamView s)) : P (streamView t) := by
  have hall : ∀ {w : StreamView}, Relation.ReflTransGen StreamMove (streamView s) w → P w := fun h => by
    induction h with
    | refl => exact hs
    | tail _ m ih => exact hP ih m
  exact hall h

/-- Moves keep the laws of the streams. -/
theorem StreamMoves.keep_laws {s t : State} (h : StreamMoves s t) :
    (queueLaw s → queueLaw t) ∧ (conservationLaw s → conservationLaw t) ∧ (voiceLaw s → voiceLaw t) := by
  refine ⟨fun hs => ?_, fun hs => ?_, fun hs => ?_⟩
  · exact (queueLaw_iff t).2 (h.keep StreamView.QueueLaw.move ((queueLaw_iff s).1 hs))
  · exact (conservationLaw_iff t).2 (h.keep StreamView.ConservationLaw.move ((conservationLaw_iff s).1 hs))
  · exact (voiceLaw_iff t).2 (h.keep StreamView.VoiceLaw.move ((voiceLaw_iff s).1 hs))

end Sys2Proof.Machine
end

section
/-! What the shared operations do to the view of the streams. -/

namespace Sys2Proof.Machine

open Sys2Proof

/-! ### Updates of one part of the state -/

/-- The view depends on the slots, the queues, the converters and the voices alone. -/
theorem streamView_congr {s t : State} (hs : t.slots = s.slots) (hq : t.queues = s.queues) (hc : t.convs = s.convs)
    (hv : t.voices = s.voices) : streamView t = streamView s := by
  simp only [streamView, hs, hq, hc, hv]

/-- Another record of a slot shows in the view by its state and its last accepted sequence. -/
theorem streamView_setSlot (k : SlotId) (x : StreamSlot) (s : State) :
    streamView (s.setSlot k x) = (streamView s).setSlot k x.state x.lastAccepted := by
  have hread : ∀ {α : Type} (f : StreamSlot → α),
      (fun j : SlotId => f (s.slots.set k x)[j]) = Function.update (fun j : SlotId => f s.slots[j]) k (f x) := by
    intro α f
    funext j
    rw [Function.update_apply]
    split
    · next hj => rw [hj, set_get]
    · next hj => rw [set_get_other _ hj]
  exact StreamView.ext (hread StreamSlot.state) (hread StreamSlot.lastAccepted) rfl rfl

/-- A slot that keeps its state and its last accepted sequence does not show in the view. -/
theorem streamView_setSlot_of_eq {k : SlotId} {x : StreamSlot} {s : State} (hs : x.state = s.slots[k].state)
    (hl : x.lastAccepted = s.slots[k].lastAccepted) : streamView (s.setSlot k x) = streamView s := by
  rw [streamView_setSlot, hs, hl]
  exact StreamView.ext (Function.update_eq_self k (streamView s).slot) (Function.update_eq_self k (streamView s).last) rfl rfl

/-- Another queue and another converter record of a stream show in the view by what the stream holds. -/
theorem streamView_setStream (k : SlotId) (q : RxQueue) (c : Converter) (s : State) :
    streamView ((s.setQueue k q).setConv k c) = (streamView s).setStock k (stockOf c q) := by
  refine StreamView.ext rfl rfl (funext fun j => ?_) rfl
  show stockOf (s.convs.set k c)[j] (s.queues.set k q)[j] = Function.update (streamView s).stock k (stockOf c q) j
  rw [Function.update_apply]
  split
  · next hj => rw [hj, set_get, set_get]
  · next hj => rw [set_get_other _ hj, set_get_other _ hj]; rfl

/-- A queue and a converter record with the same holding do not show in the view. -/
theorem streamView_setStream_of_eq {k : SlotId} {q : RxQueue} {c : Converter} {s : State}
    (h : stockOf c q = stockOf s.convs[k] s.queues[k]) : streamView ((s.setQueue k q).setConv k c) = streamView s := by
  rw [streamView_setStream, h]
  exact StreamView.ext rfl rfl (Function.update_eq_self k (streamView s).stock) rfl

/-- A queue with the same entries and the same counts of R95 does not show in the view. -/
theorem streamView_setQueue_of_eq {k : SlotId} {q : RxQueue} {s : State}
    (h : stockOf s.convs[k] q = stockOf s.convs[k] s.queues[k]) : streamView (s.setQueue k q) = streamView s := by
  have hsame : (s.setQueue k q).setConv k s.convs[k] = s.setQueue k q := by
    rw [State.setConv, State.setQueue]
    exact congrArg (fun convs => { s with queues := s.queues.set k q, convs := convs }) (set_get_self s.convs k)
  rw [← hsame]
  exact streamView_setStream_of_eq h

/-- Queues with the same holdings do not show in the view. -/
theorem streamView_queues_of_eq {s : State} {queues : Vector RxQueue 4}
    (h : ∀ k : SlotId, stockOf s.convs[k] queues[k] = stockOf s.convs[k] s.queues[k]) :
    streamView { s with queues := queues } = streamView s :=
  StreamView.ext rfl rfl (funext h) rfl

/-! ### The call (R14, R17) -/

theorem streams_changeCall (c : CallRecord) (s : State) : StreamMoves s (changeCall c s) := .of_view rfl

/-- The converters of a completed closing have no current frame (R14, R101). -/
theorem streams_completeClosing (s : State) : StreamMoves s (completeClosing s) := by
  refine .single (.read (streamView s) (fun k => { (streamView s).stock k with current := .none }) fun k =>
    .single (.leave _ .none nofun)) ?_
  rw [completeClosing_eq]
  refine StreamView.ext rfl rfl (funext fun k => ?_) rfl
  have hclosed : (s.convs.map (Converter.closed s.blockSamples))[k] = s.convs[k].closed s.blockSamples :=
    Vector.getElem_map _ k.isLt
  show stockOf (s.convs.map (Converter.closed s.blockSamples))[k] s.queues[k] = _
  rw [hclosed]
  rfl

theorem streams_settleClosing (s : State) : StreamMoves s (settleClosing s) := by
  unfold settleClosing
  split
  · exact streams_completeClosing s
  · exact .refl s

/-! ### Slots (R59, R66) -/

/-- A slot without a stream goes on to a state outside STREAMING. -/
theorem streams_setSlot {k : SlotId} {x : StreamSlot} {s : State} (hx : x.state ≠ .streaming)
    (h : s.slots[k].state ≠ .streaming ∨ (streamView s).Ended k) : StreamMoves s (s.setSlot k x) :=
  .single (.rest (streamView s) k x.state x.lastAccepted hx h) (streamView_setSlot k x s)

/-- The roster is no part of the view (R59). -/
theorem streamView_releaseEntry (entry : Option EntryId) (s : State) : streamView (releaseEntry entry s) = streamView s := by
  cases entry <;> rfl

/-- A slot without a stream becomes FREE (R59). -/
theorem streams_freeSlot {k : SlotId} {s : State} (h : s.slots[k].state ≠ .streaming ∨ (streamView s).Ended k) :
    StreamMoves s (freeSlot k s) := by
  have hview := streamView_releaseEntry s.slots[k].rosterIndex s
  have hrest : (streamView (releaseEntry s.slots[k].rosterIndex s)).slot k ≠ .streaming
      ∨ (streamView (releaseEntry s.slots[k].rosterIndex s)).Ended k := by
    rw [hview]
    exact h
  exact (StreamMoves.of_view hview).trans ((streams_setSlot (x := StreamSlot.reset) nofun hrest).trans
    (streams_settleClosing _))

theorem streams_endJoin (result : Byte) {k : SlotId} {s : State} (h : s.slots[k].state = .joining) :
    StreamMoves s (endJoin result k s) :=
  (streams_freeSlot (.inl (by rw [h]; nofun))).trans (.of_view rfl)

/-- The view once a slot has left STREAMING: its queue flushed, its voice without it (R66). -/
theorem streamView_leaveStreaming (k : SlotId) (s : State) :
    streamView (leaveStreaming k s)
      = { (streamView s).setStock k ((streamView s).stock k).flush with
          voice := fun i => voiceWithout k ((streamView s).voice i) } := by
  obtain ⟨hqueues, hconvs, -, hslots, -, hvoices, -⟩ := leaveStreaming_spec k s
  have hleft : streamView { leaveStreaming k s with voices := s.voices }
      = (streamView s).setStock k ((streamView s).stock k).flush :=
    calc streamView { leaveStreaming k s with voices := s.voices }
      _ = streamView (((s.setSlot k { s.slots[k] with lastSent := none, retryCandidate := false }).setQueue k
            s.queues[k].flush).setConv k s.convs[k].leaveStreaming) := streamView_congr hslots hqueues hconvs rfl
      _ = _ := streamView_setStream k _ _ _
      _ = _ := congrArg (StreamView.setStock k _) (streamView_setSlot_of_eq rfl rfl)
  obtain ⟨hslot, hlast, hstock, -⟩ := StreamView.ext_iff.1 hleft
  exact StreamView.ext hslot hlast hstock (funext hvoices)

/-- A slot that has left STREAMING has no stream (R66). -/
theorem ended_leaveStreaming (k : SlotId) (s : State) : (streamView (leaveStreaming k s)).Ended k := by
  rw [streamView_leaveStreaming]
  refine ⟨?_, fun i hi => ((Voice.hasMember_voiceWithout k k _).1 hi).2 rfl⟩
  simp only [StreamView.setStock, Function.update_self]
  rfl

theorem streams_leaveStreaming (k : SlotId) (s : State) : StreamMoves s (leaveStreaming k s) :=
  .single (.flush (streamView s) k) (streamView_leaveStreaming k s)

theorem streams_enterLeaving (k : SlotId) (s : State) : StreamMoves s (enterLeaving k s) :=
  (streams_leaveStreaming k s).trans (streams_setSlot nofun (.inr (ended_leaveStreaming k s)))

/-- A slot is sent away by what its state asks for (R13). -/
theorem streams_closeSlot (k : SlotId) (s : State) : StreamMoves s (closeSlot k s) := by
  rcases closeSlot_cases k s with ⟨h, he⟩ | ⟨-, he⟩ | ⟨-, -, he⟩
  · have hjoining : s.slots[k].state ≠ .streaming := by rw [h]; nofun
    rw [he]
    exact (streams_setSlot (x := StreamSlot.reset) nofun (.inl hjoining)).trans (.of_view rfl)
  · rw [he]; exact streams_enterLeaving k s
  · rw [he]; exact .refl s

/-- The entry to CLOSING makes moves (R13). -/
theorem streams_enterClosing (reason : CloseReason) (s : State) : StreamMoves s (enterClosing reason s) :=
  ((forEachSlot_of_trans .trans streams_closeSlot s).trans (streams_changeCall _ _)).trans (streams_settleClosing _)

/-! ### The block event (R81, R142) -/

/-- A block event reads frames from the queues of the STREAMING slots, and holds the elections of the voices. -/
theorem streams_of_blockFormed {down up : List Sample} {s t : State} (h : blockFormed down up s t) : StreamMoves s t := by
  obtain ⟨src, -, -, hstreaming, hother, hvoices, -, -, -, -, -, -, -, -, -, -, -, -, -, hslots, -⟩ := h
  have hread : ∀ k : SlotId, StockMoves ((streamView s).stock k) ((streamView t).stock k) := fun k => by
    by_cases hk : s.slots[k].state = .streaming
    · obtain ⟨hq, hc, -⟩ := hstreaming k hk
      show StockMoves (stockOf s.convs[k] s.queues[k]) (stockOf t.convs[k] t.queues[k])
      rw [hq, hc]
      exact stock_convertBlock _ _ _
    · obtain ⟨hq, hc, -⟩ := hother k hk
      exact .of_eq (congrArg₂ stockOf hc hq)
  have helect : ∀ i : VoiceId, ((streamView s).voice i).SameMembers ((streamView t).voice i) := fun i => by
    show s.voices[i].SameMembers t.voices[i]
    rw [hvoices i]
    exact sameMembers_formVoice _ _ _
  have hview : streamView t = { streamView s with stock := (streamView t).stock, voice := (streamView t).voice } := by
    simp only [streamView, hslots]
  refine Relation.ReflTransGen.head (.read (streamView s) (streamView t).stock hread) (.single ?_)
  rw [hview]
  exact .elect _ (streamView t).voice helect

end Sys2Proof.Machine
end

section
/-! The moves of the calls, of the Call Port and of the streams: `streams_f` says that `f` makes moves of the streams alone. -/

namespace Sys2Proof.Machine

open Sys2Proof

/-! ### The calls (R4 to R14) -/

theorem streams_callOpen (body : List Byte) (s : State) : StreamMoves s (callOpen body s).state := by
  unfold callOpen
  split
  · split
    · split <;> exact .of_view rfl
    · exact .refl s
  · exact .refl s

theorem streams_callHold (body : List Byte) (s : State) : StreamMoves s (callHold body s).state := by
  unfold callHold
  split
  · split <;> exact .of_view rfl
  · exact .refl s

theorem streams_callResume (body : List Byte) (s : State) : StreamMoves s (callResume body s).state := by
  unfold callResume
  split
  · split <;> exact .of_view rfl
  · exact .refl s

theorem streams_callClose (body : List Byte) (s : State) : StreamMoves s (callClose body s).state := by
  unfold callClose
  split
  · cases hs : s.call.state with
    | idle => exact .refl s
    | opening => exact .of_view rfl
    | closing => exact .refl s
    | live => exact streams_enterClosing _ s
    | held => exact streams_enterClosing _ s
    | lost => exact streams_enterClosing _ s
  · exact .refl s

theorem streams_callGet (body : List Byte) (s : State) : StreamMoves s (callGet body s).state := by
  unfold callGet
  split <;> exact .refl s

theorem streams_lockTimeout (s : State) : StreamMoves s (lockTimeout s) := by
  unfold lockTimeout
  split <;> exact .of_view rfl

/-! ### The Call Port (R9 to R11, R153 to R157) -/

/-- The port record does not show in the view. -/
theorem streamView_port (p : PortRecord) (s : State) : streamView { s with port := p } = streamView s := rfl

/-- A block event makes the moves of its streams and voices (R81, R142). -/
theorem streams_formBlock (down : List Sample) (s : State) : StreamMoves s (formBlock down s) :=
  streams_of_blockFormed (formBlock_spec down s)

theorem streams_takeLock (s : State) : StreamMoves s (takeLock s) := by
  unfold takeLock
  split <;> exact .of_view rfl

theorem streams_huntSync (first second : BitVec 16) (s : State) : StreamMoves s (huntSync first second s) := by
  unfold huntSync
  split
  · unfold lockPort
    exact (StreamMoves.of_view (streamView_port _ s)).trans (streams_takeLock _)
  · exact .of_view (streamView_port _ s)

theorem streams_syncInStep (first second : BitVec 16) (s : State) : StreamMoves s (syncInStep first second s) := by
  by_cases hi : s.port.wordIndex + 1 < s.blockSamples
  · rw [syncInStep_inside first second hi]
    exact .of_view (streamView_port _ s)
  · rw [syncInStep_last first second (Nat.not_lt.1 hi)]
    exact (StreamMoves.of_view (t := referenced s) rfl).trans ((streams_formBlock _ _).trans (.of_view (streamView_port _ _)))

theorem streams_takeSync (first second : BitVec 16) (s : State) : StreamMoves s (takeSync first second s) := by
  unfold takeSync
  split
  · exact .refl s
  · exact streams_huntSync first second s
  · exact streams_huntSync first second s
  · exact streams_syncInStep first second s

theorem streams_countFreeRun (s : State) : StreamMoves s (countFreeRun s) := by
  have hcounted : StreamMoves s (freeRunCounted s) := .of_view rfl
  by_cases h : s.call.state ≠ .lost ∨ s.call.freeRunCount < 199
  · rw [countFreeRun_of_below h]
    exact hcounted
  · simp only [not_or, not_not, not_lt] at h
    obtain ⟨hlost, hcount⟩ := h
    rw [countFreeRun_of_last hlost hcount]
    exact hcounted.trans (streams_enterClosing .syncLost _)

theorem streams_freeRunBlock (s : State) : StreamMoves s (freeRunBlock s) := by
  obtain ⟨hformed, -⟩ := freeRunFormed_spec s
  rw [freeRunBlock_eq]
  exact (streams_of_blockFormed hformed).trans (streams_countFreeRun _)

theorem streams_takeSyncLoss (s : State) : StreamMoves s (takeSyncLoss s) := by
  unfold takeSyncLoss
  split <;> exact .of_view rfl

theorem streams_syncLoss (s : State) : StreamMoves s (syncLoss s) := by
  have hlost : StreamMoves s (syncLost s) :=
    (StreamMoves.of_view (streamView_port s.port.lose s)).trans (streams_takeSyncLoss _)
  have hrun := hlost.trans (streams_freeRunBlock (syncLost s))
  unfold syncLoss
  split
  · unfold declareSyncLoss
    dsimp only
    split
    · exact hrun.trans (.of_view (streamView_port _ _))
    · split
      · exact hrun
      · exact hlost
  · exact .refl s

theorem streams_freeRunningBlockEvent (s : State) : StreamMoves s (freeRunningBlockEvent s) := by
  unfold freeRunningBlockEvent
  split
  · exact streams_freeRunBlock s
  · exact .refl s

/-! ### Joining and leaving (R60 to R69) -/

/-- A FREE slot taken for a join (R60). -/
theorem streams_startJoin {k : SlotId} (i : EntryId) {s : State} (h : s.slots[k].state = .free) :
    StreamMoves s (startJoin k i s) := by
  have hslot : (s.setEntry i s.roster[i].joined).slots[k].state ≠ .streaming := by
    show s.slots[k].state ≠ .streaming
    rw [h]
    nofun
  exact ((StreamMoves.of_view (t := s.setEntry i s.roster[i].joined) rfl).trans
    (streams_setSlot (x := { StreamSlot.reset with
      state := .joining, rosterIndex := some i, challenge := some (Config.freshChallenge s.draws) }) nofun (.inl hslot))).trans
    (.of_view rfl)

theorem streams_earJoin (body : List Byte) (s : State) : StreamMoves s (earJoin body s).state := by
  unfold earJoin
  split
  · split
    · split
      · exact .refl s
      · next i _ =>
        split
        · exact .refl s
        · exact .refl s
        · exact .refl s
        · split
          · split
            · next k hk => exact streams_startJoin i (free_of_lowestFreeSlot hk)
            · exact .refl s
          · exact .refl s
    · exact .refl s
  · exact .refl s

/-- The binding of a slot leaves the voices, or binds it to one that takes it (R138). -/
theorem bindVoice_cases (k : SlotId) (d : Declared) (s : State) :
    (streamView (bindVoice k d s)).voice = (streamView s).voice
      ∨ ∃ (i : VoiceId) (p : Place), ((streamView s).voice i).takes p
        ∧ (streamView (bindVoice k d s)).voice
          = Function.update (streamView s).voice i (((streamView s).voice i).bindMember p k) := by
  unfold bindVoice
  split
  · split
    · next i hi =>
      refine .inr ⟨i, d.place, Voice.takes_of_voiceFor hi, funext fun j => ?_⟩
      show (s.voices.set i (s.voices[i].bindMember d.place k))[j] = _
      rw [Function.update_apply]
      split
      · next hj => rw [hj, set_get]; rfl
      · next hj => rw [set_get_other _ hj]; rfl
    · exact .inl rfl
  · exact .inl rfl

/-- A JOINING slot begins its stream (R63, R80, R101, R138). -/
theorem streams_enterStreaming {k : SlotId} (d : Declared) {s : State} (h : s.slots[k].state = .joining) :
    StreamMoves s (enterStreaming k d s) := by
  have hslot : (streamView s).slot k ≠ .streaming := fun hs => nomatch h.symm.trans hs
  refine .single (.begin (streamView s) k (streamView (bindVoice k d s)).voice hslot (bindVoice_cases k d s)) ?_
  rw [enterStreaming_eq]
  have hbegun : streamView (((s.setSlot k s.slots[k].begin).setQueue k s.queues[k].begin).setConv k
      (Converter.starting d.clockClass.limit s.call.rate.samples))
        = ((streamView s).setSlot k .streaming none).setStock k .empty :=
    (streamView_setStream k _ _ _).trans (congrArg (StreamView.setStock k _) (streamView_setSlot k _ s))
  obtain ⟨hslot, hlast, hstock, -⟩ := StreamView.ext_iff.1 hbegun
  exact StreamView.ext hslot hlast hstock rfl

theorem streams_joinAck (h : AirHeader) (accepts : Bool) (proof : Key) (s : State) :
    StreamMoves s (joinAck h accepts proof s) := by
  unfold joinAck
  split
  · next k hk =>
    have hjoining := joining_of_joinAckFor hk
    unfold answerJoin
    split
    · split
      · split
        · exact streams_enterStreaming _ hjoining
        · exact streams_endJoin 4 hjoining
      · exact .refl s
    · exact streams_endJoin 3 hjoining
  · exact .refl s

theorem streams_joinNoAnswer (k : SlotId) (s : State) : StreamMoves s (joinNoAnswer k s) := by
  unfold joinNoAnswer
  split
  · next h => exact streams_endJoin 5 h.1
  · exact .refl s

theorem streams_earLeave (body : List Byte) (s : State) : StreamMoves s (earLeave body s).state := by
  unfold earLeave
  split
  · split
    · exact .refl s
    · next k _ =>
      cases hs : s.slots[k].state with
      | free => exact .refl s
      | joining => exact streams_endJoin 6 hs
      | streaming => exact streams_enterLeaving k s
      | leaving => exact .refl s
  · exact .refl s

/-- A LEAVING slot becomes FREE (R68). -/
theorem streams_freeSlot_of_leaving {k : SlotId} {s : State} (h : s.slots[k].state = .leaving) :
    StreamMoves s (freeSlot k s) := streams_freeSlot (.inl (by rw [h]; nofun))

theorem streams_leaveAck (h : AirHeader) (s : State) : StreamMoves s (leaveAck h s) := by
  unfold leaveAck
  split
  · next k hk =>
    obtain ⟨-, hleaving, -⟩ := (leaveAckFor_iff h k s).1 hk
    exact streams_freeSlot_of_leaving hleaving
  · exact .refl s

theorem streams_leaveUnanswered (k : SlotId) (s : State) : StreamMoves s (leaveUnanswered k s) := by
  unfold leaveUnanswered
  split
  · next h => exact streams_freeSlot_of_leaving h.1
  · exact .refl s

/-- A slot that loses its link has no stream after its stream's end, for which the freeing waits (R69). -/
theorem streams_linkLoss (k : SlotId) (s : State) : StreamMoves s (linkLoss k s) := by
  have hfreed : StreamMoves s (freeSlot k (endStream k s)) := by
    unfold endStream
    split
    · exact (streams_leaveStreaming k s).trans (streams_freeSlot (.inr (ended_leaveStreaming k s)))
    · next hs => exact streams_freeSlot (.inl hs)
  unfold linkLoss
  split
  · exact hfreed.trans (.of_view rfl)
  · exact .refl s

/-! ### The receive queues (R82 to R105) -/

/-- A point given to the drift tracker leaves the current frame (R102). -/
theorem Converter.offered_current (e : QueueEntry) (interval : Count32) (c : Converter) :
    (c.offered e interval).current = c.current := by
  unfold offered
  split
  · rw [givePoint_eq]
    split <;> rfl
  · rfl

/-- An overrun abandons a real current frame, and leaves another (R86, R117). -/
theorem Converter.overrun_current (c : Converter) : c.overrun.current = if c.current = .real then .none else c.current := by
  rw [overrun_eq]
  split
  · rfl
  · split <;> rfl

/-- What a stream holds once an arrival has been accepted (R85, R86). -/
theorem stockOf_accepted (e : QueueEntry) (interval : Count32) (c : Converter) (q : RxQueue) (starts : Bool) :
    stockOf
        (let offered := c.offered e interval
         let roomMade := if 8 ≤ q.entries.length then offered.overrun else offered
         if starts then { roomMade with freshStartPending := true } else roomMade)
        (if starts then { q.appended e with state := .playing } else q.appended e)
      = (stockOf c q).accept e := by
  have hcurrent : (if 8 ≤ q.entries.length then (c.offered e interval).overrun else c.offered e interval).current
      = if 8 ≤ q.entries.length ∧ c.current = .real then .none else c.current := by
    by_cases hfull : 8 ≤ q.entries.length
    · simp only [hfull, if_true, true_and, Converter.overrun_current, Converter.offered_current]
    · simp only [hfull, if_false, false_and, Converter.offered_current]
  cases starts <;> exact Stock.ext rfl rfl rfl rfl rfl hcurrent

/-- An accepted arrival shows in the view by its sequence and by what its stream holds (R85). -/
theorem streamView_acceptArrival {k : SlotId} (e : QueueEntry) {s : State} (h : s.slots[k].state = .streaming) :
    streamView (acceptArrival k e s)
      = ((streamView s).setSlot k .streaming (some e.sequence)).setStock k (((streamView s).stock k).accept e) := by
  rw [acceptArrival_eq]
  refine (streamView_setStream k _ _ (s.setSlot k { s.slots[k] with lastAccepted := some e.sequence })).trans ?_
  rw [streamView_setSlot, stockOf_accepted]
  exact congrArg (fun st => ((streamView s).setSlot k st _).setStock k _) h

/-- An arrival of a STREAMING slot is left, discarded or accepted; an accepted one is newer than what R83 names. -/
theorem streams_takeArrival {k : SlotId} (e : QueueEntry) {s : State} (h : s.slots[k].state = .streaming) :
    StreamMoves s (takeArrival k e s) := by
  have hdiscarded : ∀ (code : Byte) {stats : Stats},
      stockOf s.convs[k] { s.queues[k] with stats := stats } = stockOf s.convs[k] s.queues[k] →
      StreamMoves s (discardArrival k code stats s) :=
    fun _ _ hstock => .of_view (streamView_setQueue_of_eq hstock)
  unfold takeArrival
  split
  · exact .refl s
  · split
    · exact hdiscarded 1 rfl
    · next hd =>
      split
      · exact hdiscarded 2 rfl
      · refine .single (.accept (streamView s) k e h fun a ha => ?_) (streamView_acceptArrival e h)
        by_contra hn
        exact hd ((isDuplicate_iff _ _ _).2 ⟨a, ha, Bool.eq_false_iff.2 hn⟩)

/-- The hearing of a slot does not show in the view (R65). -/
theorem streamView_noteHeard (k : SlotId) (downAck : Bool) (s : State) : streamView (noteHeard k downAck s) = streamView s := by
  have hmarked : streamView (s.setSlot k { s.slots[k] with heard := true }) = streamView s := streamView_setSlot_of_eq rfl rfl
  unfold noteHeard
  split
  · exact hmarked
  · refine (streamView_setQueue_of_eq (k := k) ?_).trans hmarked
    rfl

theorem streams_takeUp (h : AirHeader) (f : UpFrame) (s : State) : StreamMoves s (takeUp h f s) := by
  unfold takeUp
  split
  · next k retried hk =>
    obtain ⟨-, hstreaming, -⟩ := (upFor_iff h f k retried s).1 hk
    have hview := streamView_noteHeard k f.downAck s
    have hheard : (noteHeard k f.downAck s).slots[k].state = .streaming :=
      (congrFun (congrArg StreamView.slot hview) k).trans hstreaming
    exact (StreamMoves.of_view hview).trans (streams_takeArrival _ hheard)
  · exact .refl s

theorem streams_fillTimeout (k : SlotId) (s : State) : StreamMoves s (fillTimeout k s) := by
  unfold fillTimeout
  split
  · exact .of_view (streamView_setStream_of_eq rfl)
  · exact .refl s

/-- The close of a window leaves what the stream holds (R104, R105). -/
theorem stockOf_closeWindow (v : Verdict) (c : Converter) (q : RxQueue) :
    stockOf (c.closeWindow v) { q with stats := q.stats.closeWindow v } = stockOf c q := by
  cases v <;> rfl

theorem streams_driftWindowClose (k : SlotId) (s : State) : StreamMoves s (driftWindowClose k s) := by
  unfold driftWindowClose
  split
  · unfold closeWindowWith raiseHold
    split <;> exact .of_view (streamView_setStream_of_eq (s := s) (stockOf_closeWindow _ _ _))
  · exact .refl s

theorem streams_queueSet (body : List Byte) (s : State) : StreamMoves s (queueSet body s).state := by
  unfold queueSet
  split
  · dsimp only
    split
    · refine .of_view (streamView_queues_of_eq fun k => ?_)
      exact (congrArg (stockOf s.convs[k]) (Vector.getElem_map _ k.isLt)).trans rfl
    · split
      · exact .of_view (streamView_setQueue_of_eq rfl)
      · exact .refl s
  · exact .refl s

/-- A voice that keeps its members (R141). -/
theorem streams_setVoice {i : VoiceId} {x : Voice} {s : State} (h : s.voices[i].SameMembers x) :
    StreamMoves s (s.setVoice i x) := by
  refine .single (.elect (streamView s) (streamView (s.setVoice i x)).voice fun j => ?_) rfl
  show s.voices[j].SameMembers (s.voices.set i x)[j]
  by_cases hj : j = i
  · rw [hj, set_get]
    exact h
  · rw [set_get_other _ hj]
    exact .refl _

theorem streams_voiceSet (body : List Byte) (s : State) : StreamMoves s (voiceSet body s).state := by
  unfold voiceSet
  split
  · split
    · rw [answerClamped_state]
      exact streams_setVoice ⟨rfl, rfl, rfl, rfl⟩
    · exact .refl s
  · exact .refl s

end Sys2Proof.Machine
end

section
/-! The moves of the commands that the laws of the streams do not see, of the air interval, and of every step. -/

namespace Sys2Proof.Machine

open Sys2Proof

/-! ### The taking of a request (R173, R174) -/

/-- A request makes the moves of its answer. -/
theorem streams_takeWith (kind : Byte) (m : Message) {answer : State → Answer}
    (h : ∀ u : State, StreamMoves u (answer u).state) (s : State) : StreamMoves s (takeWith kind m answer s) := by
  by_cases ht : takeable m s
  · rw [takeWith_of_takeable ht]
    exact (StreamMoves.of_view (t := dropRequest s) rfl).trans ((h (dropRequest s)).trans (.of_view rfl))
  · rw [takeWith_of_not_takeable ht]; exact .refl s

/-- The same for a request of a known kind. -/
theorem streams_takeRequest (kind tag : Byte) (body : List Byte) {answer : State → Answer}
    (h : ∀ u : State, StreamMoves u (answer u).state) (s : State) : StreamMoves s (takeRequest kind tag body answer s) :=
  streams_takeWith _ _ h s

theorem streams_unknownKindRequest (kind tag : Byte) (body : List Byte) (s : State) :
    StreamMoves s (if isRequestKind kind then s else takeWith 0x80 ⟨kind, tag, body⟩ (refuse .unknownKind) s) := by
  split
  · exact .refl s
  · exact streams_takeWith _ _ StreamMoves.refl s

/-! ### The requests that do not show in the view -/

theorem streams_hello (body : List Byte) (s : State) : StreamMoves s (hello body s).state := by
  unfold hello
  split <;> exact .of_view rfl

theorem streams_resetSoft (body : List Byte) (s : State) : StreamMoves s (resetSoft body s).state := by
  unfold resetSoft
  split <;> exact .of_view rfl

theorem streams_rosterPut (body : List Byte) (s : State) : StreamMoves s (rosterPut body s).state := by
  rcases rosterPut_cases body s with ⟨st, he⟩ | ⟨i, c, -, -, -, he⟩ <;> rw [he] <;> exact .of_view rfl

theorem streams_rosterGet (body : List Byte) (s : State) : StreamMoves s (rosterGet body s).state := by
  unfold rosterGet
  split
  · split <;> exact .refl s
  · exact .refl s

theorem streams_rosterDrop (body : List Byte) (s : State) : StreamMoves s (rosterDrop body s).state := by
  unfold rosterDrop
  split
  · split
    · split <;> exact .of_view rfl
    · exact .refl s
  · exact .refl s

theorem streams_statsGet (body : List Byte) (s : State) : StreamMoves s (statsGet body s).state := by
  unfold statsGet
  split
  · split <;> exact .refl s
  · exact .refl s

theorem streams_mixSet (body : List Byte) (s : State) : StreamMoves s (mixSet body s).state := by
  unfold mixSet
  split
  · split <;> exact .of_view rfl
  · exact .refl s

theorem streams_mixCommit (body : List Byte) (s : State) : StreamMoves s (mixCommit body s).state := by
  unfold mixCommit
  split
  · split <;> exact .of_view rfl
  · exact .refl s

theorem streams_mixGet (body : List Byte) (s : State) : StreamMoves s (mixGet body s).state := by
  unfold mixGet
  split
  · split <;> exact .refl s
  · exact .refl s

theorem streams_sinkSet (body : List Byte) (s : State) : StreamMoves s (sinkSet body s).state := by
  unfold sinkSet
  split
  · split <;> exact .of_view rfl
  · exact .refl s

theorem streams_watchSet (body : List Byte) (s : State) : StreamMoves s (watchSet body s).state := by
  unfold watchSet
  split
  · split <;> exact .of_view rfl
  · exact .refl s

theorem streams_noticeRoute (body : List Byte) (s : State) : StreamMoves s (noticeRoute body s).state := by
  unfold noticeRoute
  split
  · split
    · split <;> exact .of_view rfl
    · exact .refl s
  · exact .refl s

theorem streams_noticeMask (body : List Byte) (s : State) : StreamMoves s (noticeMask body s).state := by
  unfold noticeMask
  split
  · split <;> exact .of_view rfl
  · exact .refl s

theorem streams_noticeAck (body : List Byte) (s : State) : StreamMoves s (noticeAck body s).state := by
  unfold noticeAck
  split
  · split
    · split <;> exact .of_view rfl
    · exact .refl s
  · exact .refl s

theorem streams_noticePoll (body : List Byte) (s : State) : StreamMoves s (noticePoll body s).state := by
  unfold noticePoll
  split
  · split
    · split
      · split <;> exact .of_view rfl
      · exact .refl s
    · exact .refl s
  · exact .refl s

/-! ### The Control Port, and the reset (R2, R172 to R176) -/

/-- The Control Port does not show in the view. -/
theorem streamView_setControl (c : ControlPort) (s : State) : streamView (s.setControl c) = streamView s := rfl

theorem streams_discardFrame (code : Byte) (s : State) : StreamMoves s (discardFrame code s) := .of_view rfl

theorem streams_settleFrame (s : State) : StreamMoves s (settleFrame s) := by
  unfold settleFrame
  split
  · exact .refl s
  · exact streams_discardFrame 2 s
  · exact streams_discardFrame 1 s
  · exact .of_view (streamView_setControl _ s)

theorem streams_receiveByte (b : Byte) (s : State) : StreamMoves s (receiveByte b s) := by
  unfold receiveByte
  split
  · exact .refl s
  · split
    · exact streams_discardFrame 4 s
    · exact (StreamMoves.of_view (streamView_setControl _ s)).trans (streams_settleFrame _)

theorem streams_byteTimeout (s : State) : StreamMoves s (byteTimeout s) := by
  unfold byteTimeout
  split <;> exact .of_view rfl

theorem streams_transmitStart (hostReady : Bool) (s : State) : StreamMoves s (transmitStart hostReady s) := by
  unfold transmitStart
  split
  · unfold chooseFrame
    split
    · exact .of_view rfl
    · split
      · exact .of_view rfl
      · split <;> exact .of_view rfl
  · exact .refl s

theorem streams_transmitDone (s : State) : StreamMoves s (transmitDone s) := by
  unfold transmitDone
  split
  · exact .refl s
  · split <;> exact .of_view rfl

/-- The reset of the part is a move (R2). -/
theorem streams_resetPart (s : State) : StreamMoves s (resetPart s) := .single (.reset _) rfl

theorem streams_softReset (s : State) : StreamMoves s (softReset s) := by
  unfold softReset
  split
  · exact streams_resetPart s
  · exact .refl s

/-! ### Pairing (R35 to R49) -/

theorem streams_failPairing (reason : FailReason) (s : State) : StreamMoves s (failPairing reason s) := by
  rw [failPairing_spec reason s]
  exact .of_view rfl

theorem streams_pairStart (body : List Byte) (s : State) : StreamMoves s (pairStart body s).state := by
  unfold pairStart
  split
  · split
    · split <;> exact .of_view rfl
    · exact .refl s
  · exact .refl s

theorem streams_pairPick (body : List Byte) (s : State) : StreamMoves s (pairPick body s).state := by
  unfold pairPick
  split
  · split
    · split
      · exact .refl s
      · split
        · exact .refl s
        · split
          · exact .refl s
          · split <;> exact .of_view rfl
    · exact .refl s
  · exact .refl s

theorem streams_pairConfirm (body : List Byte) (s : State) : StreamMoves s (pairConfirm body s).state := by
  unfold pairConfirm
  split
  · split
    · split <;> exact .of_view rfl
    · exact .refl s
  · exact .refl s

theorem streams_pairCancel (body : List Byte) (s : State) : StreamMoves s (pairCancel body s).state := by
  unfold pairCancel
  split
  · split
    · exact .refl s
    · unfold cancelPairing
      split
      · split
        · exact streams_failPairing .cancelled s
        · exact .of_view rfl
      · exact .refl s
  · exact .refl s

theorem streams_ask (h : AirHeader) (declared : RawDeclared) (quality : Byte) (s : State) :
    StreamMoves s (ask h declared quality s) := by
  unfold ask
  split
  · split
    · unfold raiseCandidate
      split <;> exact .of_view rfl
    · exact .refl s
  · exact .refl s

theorem streams_accept (h : AirHeader) (earValue : PublicValue) (s : State) : StreamMoves s (accept h earValue s) := by
  unfold accept
  split <;> exact .of_view rfl

theorem streams_confirm (h : AirHeader) (s : State) : StreamMoves s (confirm h s) := by
  unfold confirm
  split <;> exact .of_view rfl

theorem streams_reject (h : AirHeader) (s : State) : StreamMoves s (reject h s) := by
  unfold reject
  split
  · exact streams_failPairing .rejectedByEar s
  · exact .refl s

theorem streams_bound (h : AirHeader) (s : State) : StreamMoves s (bound h s) := by
  unfold bound
  split
  · split
    · unfold settleBind
      split <;> exact .of_view rfl
    · exact .refl s
  · exact .refl s

theorem streams_candidateExpiry (s : State) : StreamMoves s (candidateExpiry s) := by
  unfold candidateExpiry
  split <;> exact .of_view rfl

theorem streams_windowEnd (s : State) : StreamMoves s (windowEnd s) := by
  unfold windowEnd
  split
  · exact streams_failPairing .windowEnd s
  · exact .refl s

theorem streams_offerTimeout (s : State) : StreamMoves s (offerTimeout s) := by
  unfold offerTimeout
  split
  · split
    · exact .of_view rfl
    · exact (StreamMoves.of_view (t := pairEvent 4 FailReason.noAnswer.code (s.setPair s.pair.failPick)) rfl).trans
        (streams_windowEnd _)
  · exact .refl s

theorem streams_keyComputationDone (s : State) : StreamMoves s (keyComputationDone s) := by
  unfold keyComputationDone
  split
  · split <;> exact .of_view rfl
  · exact .refl s

theorem streams_compareTimeout (s : State) : StreamMoves s (compareTimeout s) := by
  unfold compareTimeout
  split <;> exact .of_view rfl

theorem streams_turnFirstHalfEnd (s : State) : StreamMoves s (turnFirstHalfEnd s) := by
  have hpassed : StreamMoves s (passToOffset 2000 s) := .of_view rfl
  unfold turnFirstHalfEnd
  split
  · unfold endAbandon
    split
    · split
      · exact hpassed.trans (streams_failPairing _ _)
      · exact hpassed
    · exact hpassed
  · exact .refl s

theorem streams_bindNoAnswer (s : State) : StreamMoves s (bindNoAnswer s) := by
  unfold bindNoAnswer
  split
  · exact (StreamMoves.of_view (t := passToOffset 4000 s) rfl).trans (streams_failPairing _ _)
  · exact .refl s

/-! ### The slots of the interval (R54, R70 to R75) -/

theorem streams_markRetry (k : SlotId) (s : State) : StreamMoves s (markRetry k s) := by
  unfold markRetry
  split
  · exact .of_view (streamView_setSlot_of_eq rfl rfl)
  · exact .refl s

theorem streams_grantSpare (s : State) : StreamMoves s (grantSpare s) := by
  unfold grantSpare
  split
  · next k _ =>
    exact .of_view (streamView_setSlot_of_eq (k := k) (x := { s.slots[k] with retryCandidate := false }) (s := s) rfl rfl)
  · exact .refl s

theorem streams_denyRetry (code : Byte) (k : SlotId) (s : State) : StreamMoves s (denyRetry code k s) := by
  unfold denyRetry
  split
  · have hslot : streamView (s.setSlot k { s.slots[k] with retryCandidate := false }) = streamView s :=
      streamView_setSlot_of_eq rfl rfl
    have hcounted : streamView ((s.setSlot k { s.slots[k] with retryCandidate := false }).setQueue k
        { s.queues[k] with stats := { s.queues[k].stats with retryDenials := bump s.queues[k].stats.retryDenials } })
          = streamView s := by
      refine (streamView_setQueue_of_eq ?_).trans hslot
      rfl
    exact .of_view hcounted
  · exact .refl s

/-- The DOWN frame of a slot does not show in the view (R75). -/
theorem streamView_sendDown (k : SlotId) (s : State) : streamView (sendDown k s) = streamView s := by
  have hslot : ∀ (sequence : Sequence) (last : Option Block),
      streamView (s.setSlot k { s.slots[k] with downSequence := sequence, lastSent := last }) = streamView s :=
    fun _ _ => streamView_setSlot_of_eq rfl rfl
  unfold sendDown
  split <;> exact hslot _ _

theorem streams_startDownlink (k : SlotId) (s : State) : StreamMoves s (startDownlink k s) := by
  have hslot : ∀ c : Carried, streamView (s.setSlot k { s.slots[k] with carried := c }) = streamView s :=
    fun _ => streamView_setSlot_of_eq rfl rfl
  unfold startDownlink
  split
  · exact .refl s
  · exact .of_view (hslot .joinReq)
  · exact .of_view (streamView_sendDown k (setUse (.downlink k) s))
  · exact .of_view (hslot .leave)

theorem streams_startUplink (k : SlotId) (s : State) : StreamMoves s (startUplink k s) := by
  unfold startUplink
  split <;> exact .of_view rfl

theorem streams_startTurn (s : State) : StreamMoves s (startTurn s) := by
  unfold startTurn sendTurnFrame
  split
  · split
    case h_3 => split <;> exact .of_view rfl
    all_goals exact .of_view rfl
  · exact .of_view rfl

theorem streams_startSlotNine (s : State) : StreamMoves s (startSlotNine s) := by
  unfold startSlotNine
  split
  · exact (streams_grantSpare s).trans (forEachSlot_of_trans .trans (streams_denyRetry 1) _)
  · exact (streams_startTurn s).trans (forEachSlot_of_trans .trans (streams_denyRetry 2) _)

theorem streams_runSlot (n : Fin 10) (s : State) : StreamMoves s (runSlot n s) := by
  match n with
  | 0 => exact streams_startDownlink 0 s
  | 1 => exact streams_startUplink 0 s
  | 2 => exact (streams_markRetry 0 s).trans (streams_startDownlink 1 _)
  | 3 => exact streams_startUplink 1 s
  | 4 => exact (streams_markRetry 1 s).trans (streams_startDownlink 2 _)
  | 5 => exact streams_startUplink 2 s
  | 6 => exact (streams_markRetry 2 s).trans (streams_startDownlink 3 _)
  | 7 => exact streams_startUplink 3 s
  | 8 => exact (streams_markRetry 3 s).trans (streams_grantSpare _)
  | 9 => exact streams_startSlotNine s

/-! ### The interval's end (R53) -/

theorem streams_finishSlot (k : SlotId) (s : State) : StreamMoves s (finishSlot k s) :=
  (streams_leaveUnanswered k s).trans ((streams_joinNoAnswer k _).trans ((streams_linkLoss k _).trans
    ((streams_driftWindowClose k _).trans (streams_fillTimeout k _))))

theorem streams_finishInterval (s : State) : StreamMoves s (finishInterval s) :=
  (forEachSlot_of_trans .trans streams_finishSlot s).trans ((streams_offerTimeout _).trans ((streams_compareTimeout _).trans
    ((streams_keyComputationDone _).trans ((streams_windowEnd _).trans (streams_candidateExpiry _)))))

/-- The counts of an interval's end leave what a stream holds (R90). -/
theorem stockOf_endInterval (c : Converter) (q : RxQueue) : stockOf c q.endInterval = stockOf c q := by
  unfold RxQueue.endInterval
  split <;> rfl

/-- The counts of an interval's end do not show in the view. -/
theorem streamView_countInterval (s : State) : streamView (countInterval s) = streamView s := by
  have hslot : ∀ k : SlotId, (countInterval s).slots[k] = s.slots[k].endInterval := fun k => Vector.getElem_map _ k.isLt
  have hqueue : ∀ k : SlotId, (countInterval s).queues[k] = s.queues[k].endInterval := fun k => Vector.getElem_map _ k.isLt
  refine StreamView.ext (funext fun k => ?_) (funext fun k => ?_) (funext fun k => ?_) rfl
  · exact (congrArg StreamSlot.state (hslot k)).trans rfl
  · exact (congrArg StreamSlot.lastAccepted (hslot k)).trans rfl
  · exact (congrArg (stockOf s.convs[k]) (hqueue k)).trans (stockOf_endInterval _ _)

theorem streams_airIntervalEnd (s : State) : StreamMoves s (airIntervalEnd s) := by
  have hfinished : StreamMoves s (if s.air.slot = none then finishInterval s else s) := by
    split
    · exact streams_finishInterval s
    · exact .refl s
  exact ((hfinished.trans (streams_turnFirstHalfEnd _)).trans (streams_bindNoAnswer _)).trans
    ((StreamMoves.of_view (streamView_countInterval _)).trans (.of_view rfl))

theorem streams_slotStart (s : State) : StreamMoves s (slotStart s) := by
  unfold slotStart
  split
  · next n _ =>
    have hfinished : StreamMoves s (if n = 0 then finishInterval s else s) := by
      split
      · exact streams_finishInterval s
      · exact .refl s
    exact (hfinished.trans (t := _) (.of_view rfl)).trans (streams_runSlot n (beginSlot n _))
  · exact .refl s

/-! ### Every command -/

/-- Every command makes moves of the streams alone. -/
theorem streams_exec (c : Instr) (s : State) : ∃ t : State, exec c s = .next t ∧ StreamMoves s t := by
  have hpassed : ∀ elapsed : Tick, StreamMoves s (passTime elapsed s) := fun _ => .of_view rfl
  cases c with
  | powerOnReset => exact ⟨_, rfl, streams_resetPart s⟩
  | hello tag body => exact ⟨_, rfl, streams_takeRequest _ tag body (streams_hello body) s⟩
  | resetSoft tag body => exact ⟨_, rfl, streams_takeRequest _ tag body (streams_resetSoft body) s⟩
  | softResetPerformed => exact ⟨_, rfl, streams_softReset s⟩
  | callOpen tag body => exact ⟨_, rfl, streams_takeRequest _ tag body (streams_callOpen body) s⟩
  | callHold tag body => exact ⟨_, rfl, streams_takeRequest _ tag body (streams_callHold body) s⟩
  | callResume tag body => exact ⟨_, rfl, streams_takeRequest _ tag body (streams_callResume body) s⟩
  | callClose tag body => exact ⟨_, rfl, streams_takeRequest _ tag body (streams_callClose body) s⟩
  | callGet tag body => exact ⟨_, rfl, streams_takeRequest _ tag body (streams_callGet body) s⟩
  | rosterPut tag body => exact ⟨_, rfl, streams_takeRequest _ tag body (streams_rosterPut body) s⟩
  | rosterGet tag body => exact ⟨_, rfl, streams_takeRequest _ tag body (streams_rosterGet body) s⟩
  | rosterDrop tag body => exact ⟨_, rfl, streams_takeRequest _ tag body (streams_rosterDrop body) s⟩
  | pairStart tag body => exact ⟨_, rfl, streams_takeRequest _ tag body (streams_pairStart body) s⟩
  | pairPick tag body => exact ⟨_, rfl, streams_takeRequest _ tag body (streams_pairPick body) s⟩
  | pairConfirm tag body => exact ⟨_, rfl, streams_takeRequest _ tag body (streams_pairConfirm body) s⟩
  | pairCancel tag body => exact ⟨_, rfl, streams_takeRequest _ tag body (streams_pairCancel body) s⟩
  | earJoin tag body => exact ⟨_, rfl, streams_takeRequest _ tag body (streams_earJoin body) s⟩
  | earLeave tag body => exact ⟨_, rfl, streams_takeRequest _ tag body (streams_earLeave body) s⟩
  | queueSet tag body => exact ⟨_, rfl, streams_takeRequest _ tag body (streams_queueSet body) s⟩
  | mixSet tag body => exact ⟨_, rfl, streams_takeRequest _ tag body (streams_mixSet body) s⟩
  | mixCommit tag body => exact ⟨_, rfl, streams_takeRequest _ tag body (streams_mixCommit body) s⟩
  | mixGet tag body => exact ⟨_, rfl, streams_takeRequest _ tag body (streams_mixGet body) s⟩
  | voiceSet tag body => exact ⟨_, rfl, streams_takeRequest _ tag body (streams_voiceSet body) s⟩
  | watchSet tag body => exact ⟨_, rfl, streams_takeRequest _ tag body (streams_watchSet body) s⟩
  | sinkSet tag body => exact ⟨_, rfl, streams_takeRequest _ tag body (streams_sinkSet body) s⟩
  | statsGet tag body => exact ⟨_, rfl, streams_takeRequest _ tag body (streams_statsGet body) s⟩
  | noticeRoute tag body => exact ⟨_, rfl, streams_takeRequest _ tag body (streams_noticeRoute body) s⟩
  | noticeMask tag body => exact ⟨_, rfl, streams_takeRequest _ tag body (streams_noticeMask body) s⟩
  | noticeAck tag body => exact ⟨_, rfl, streams_takeRequest _ tag body (streams_noticeAck body) s⟩
  | noticePoll tag body => exact ⟨_, rfl, streams_takeRequest _ tag body (streams_noticePoll body) s⟩
  | unknownKindRequest kind tag body => exact ⟨_, rfl, streams_unknownKindRequest kind tag body s⟩
  | controlPortByte elapsed byte => exact ⟨_, rfl, (hpassed elapsed).trans (streams_receiveByte byte _)⟩
  | byteTimeout elapsed => exact ⟨_, rfl, (hpassed elapsed).trans (streams_byteTimeout _)⟩
  | frameToRequest => exact ⟨_, rfl, .of_view rfl⟩
  | transmitStart hostReady => exact ⟨_, rfl, streams_transmitStart hostReady s⟩
  | transmitDone => exact ⟨_, rfl, streams_transmitDone s⟩
  | airIntervalEnd => exact ⟨_, rfl, streams_airIntervalEnd s⟩
  | slotStart => exact ⟨_, rfl, streams_slotStart s⟩
  | ask h declared quality => exact ⟨_, rfl, streams_ask h declared quality s⟩
  | accept h earValue => exact ⟨_, rfl, streams_accept h earValue s⟩
  | confirm h => exact ⟨_, rfl, streams_confirm h s⟩
  | reject h => exact ⟨_, rfl, streams_reject h s⟩
  | bound h => exact ⟨_, rfl, streams_bound h s⟩
  | joinAck h accepts proof => exact ⟨_, rfl, streams_joinAck h accepts proof s⟩
  | leaveAck h => exact ⟨_, rfl, streams_leaveAck h s⟩
  | up h frame => exact ⟨_, rfl, streams_takeUp h frame s⟩
  | pairTurnFirstHalfEnd => exact ⟨_, rfl, streams_turnFirstHalfEnd s⟩
  | bindNoAnswer => exact ⟨_, rfl, streams_bindNoAnswer s⟩
  | candidateExpiry => exact ⟨_, rfl, streams_candidateExpiry s⟩
  | windowEnd => exact ⟨_, rfl, streams_windowEnd s⟩
  | offerTimeout => exact ⟨_, rfl, streams_offerTimeout s⟩
  | keyComputationDone => exact ⟨_, rfl, streams_keyComputationDone s⟩
  | compareTimeout => exact ⟨_, rfl, streams_compareTimeout s⟩
  | joinNoAnswer k => exact ⟨_, rfl, streams_joinNoAnswer k s⟩
  | leaveUnanswered k => exact ⟨_, rfl, streams_leaveUnanswered k s⟩
  | linkLoss k => exact ⟨_, rfl, streams_linkLoss k s⟩
  | fillTimeout k => exact ⟨_, rfl, streams_fillTimeout k s⟩
  | driftWindowClose k => exact ⟨_, rfl, streams_driftWindowClose k s⟩
  | sync elapsed first second => exact ⟨_, rfl, (hpassed elapsed).trans (streams_takeSync first second _)⟩
  | syncLoss elapsed => exact ⟨_, rfl, (hpassed elapsed).trans (streams_syncLoss _)⟩
  | freeRunningBlockEvent elapsed => exact ⟨_, rfl, (hpassed elapsed).trans (streams_freeRunningBlockEvent _)⟩
  | lockTimeout elapsed => exact ⟨_, rfl, (hpassed elapsed).trans (streams_lockTimeout _)⟩

/-- A command that goes on has made moves of the streams alone. -/
theorem streams_of_exec {c : Instr} {s t : State} (h : exec c s = .next t) : StreamMoves s t := by
  obtain ⟨u, hu, hm⟩ := streams_exec c s
  cases hu.symm.trans h
  exact hm

/-- Every step makes moves of the streams alone. -/
theorem streams_of_step {s t : State} (h : step s = .next t) : StreamMoves s t := by
  unfold step at h
  split at h
  · next c rest hp => exact (StreamMoves.of_view (t := s.withQueue rest) rfl).trans (streams_of_exec h)
  · unfold idleStep at h
    split at h
    · exact streams_of_exec h
    · cases h
      exact .of_view rfl

end Sys2Proof.Machine

open Sys2Proof Sys2Proof.Machine

/-- Settles O60: every step makes moves of the streams' view alone, and every move keeps the laws. -/
theorem stepsKeepStreamLaws : Obligations.StepsKeepStreamLaws := fun _ _ h => (streams_of_step h).keep_laws
end

section
/-! The drift windows, the arithmetic of the conversion and the choice of the next frame, as the statements say them
(R103 to R112). -/

namespace Sys2Proof.Machine

open Sys2Proof

/-! ### Division with round half up -/

/-- A quotient by 2^24: half the divisor is added and the floor taken (R109). -/
theorem roundHalfUp_scale (a : Int) : roundHalfUp a 16777216 = (a + 8388608) / 16777216 := by
  unfold roundHalfUp; omega

/-- The rounded quotient of natural numbers is the natural number that their own division gives. -/
theorem roundHalfUp_natCast (a d : Nat) : roundHalfUp a d = ((2 * a + d) / (2 * d) : Nat) := by
  unfold roundHalfUp; push_cast; rfl

/-! ### Interpolation (R109) -/

/-- A fraction of less than one of a difference that is not negative, rounded, lies between 0 and the difference. -/
theorem roundHalfUp_fraction_of_nonneg {d : Int} {fraction : Nat} (hd : 0 ≤ d) (hf : fraction < 16777216) :
    0 ≤ roundHalfUp (d * fraction) 16777216 ∧ roundHalfUp (d * fraction) 16777216 ≤ d := by
  have hlow : 0 ≤ d * fraction := by positivity
  have hhigh : d * fraction ≤ d * 16777216 := mul_le_mul_of_nonneg_left (by omega) hd
  rw [roundHalfUp_scale]
  omega

/-- A fraction of less than one of a difference that is not positive, rounded, lies between the difference and 0. -/
theorem roundHalfUp_fraction_of_nonpos {d : Int} {fraction : Nat} (hd : d ≤ 0) (hf : fraction < 16777216) :
    d ≤ roundHalfUp (d * fraction) 16777216 ∧ roundHalfUp (d * fraction) 16777216 ≤ 0 := by
  have hhigh : d * fraction ≤ 0 := mul_nonpos_of_nonpos_of_nonneg hd (by omega)
  have hlow : d * 16777216 ≤ d * fraction := mul_le_mul_of_nonpos_left (by omega) hd
  rw [roundHalfUp_scale]
  omega

/-- A number that lies between two numbers, as an offset from the first. -/
theorem add_mem_between {a b x : Int} (hup : a ≤ b → 0 ≤ x ∧ x ≤ b - a) (hdown : b ≤ a → b - a ≤ x ∧ x ≤ 0) :
    min a b ≤ a + x ∧ a + x ≤ max a b := by
  rcases Int.le_total a b with h | h
  · have := hup h; omega
  · have := hdown h; omega

/-- The interpolated number lies between its samples (R109). -/
theorem interpolated_mem (x0 x1 : Sample) {fraction : Nat} (hf : fraction < 16777216) :
    min x0.toInt x1.toInt ≤ x0.toInt + roundHalfUp ((x1.toInt - x0.toInt) * fraction) 16777216
      ∧ x0.toInt + roundHalfUp ((x1.toInt - x0.toInt) * fraction) 16777216 ≤ max x0.toInt x1.toInt :=
  add_mem_between (fun h => roundHalfUp_fraction_of_nonneg (sub_nonneg.2 h) hf)
    (fun h => roundHalfUp_fraction_of_nonpos (sub_nonpos.2 h) hf)

/-- A number between two samples is the value of the sample made of it. -/
theorem toInt_ofInt_of_mem {x0 x1 : Sample} {v : Int} (h : min x0.toInt x1.toInt ≤ v ∧ v ≤ max x0.toInt x1.toInt) :
    (BitVec.ofInt 16 v).toInt = v := by
  have low0 := x0.le_toInt
  have low1 := x1.le_toInt
  have high0 := x0.toInt_lt
  have high1 := x1.toInt_lt
  exact BitVec.toInt_ofInt_eq_self (by decide) (by omega) (by omega)

/-- An interpolated sample needs no clamp: its value is the interpolated number (R109). -/
theorem interpolate_toInt (x0 x1 : Sample) {fraction : Nat} (hf : fraction < 16777216) :
    (interpolate x0 x1 fraction).toInt = x0.toInt + roundHalfUp ((x1.toInt - x0.toInt) * fraction) 16777216 :=
  toInt_ofInt_of_mem (interpolated_mem x0 x1 hf)

/-! ### The applied step (R108) -/

/-- The applied step is the base step plus the trim, for a base step the trim cannot take below 0 (R108). -/
theorem blockStep_natCast {c : Converter} (q : RxQueue) (h : 1024 ≤ c.baseStep) :
    (blockStep c q : Int)
      = c.baseStep + max (-1024) (min 1024 (32 * ((q.entries.length : Int) - q.setPoint))) := by
  unfold blockStep clampInt; omega

/-! ### The close of a drift window (R103 to R105, R107) -/

/-- The measured step, as a division of natural numbers (R104). -/
theorem measuredStep_eq (deltaS period t : Nat) :
    measuredStep deltaS period t = (2 * (16777216 * deltaS * period) + t) / (2 * t) := by
  rw [measuredStep, roundHalfUp_natCast, Int.toNat_natCast]

section
variable {period : Nat} {c : Converter} {a z : Point} (ha : c.firstPoint = some a) (hz : c.lastPoint = some z)
include ha hz

/-- A window with fewer than 16 points, or with nothing to divide, has too few (R104). -/
theorem judgeWindow_of_fewPoints
    (h : c.pointCount < 16 ∨ (z.stamp - a.stamp).toNat = 0 ∨ (z.time - a.time).toNat = 0) :
    judgeWindow period c = .fewPoints := by
  simp only [judgeWindow, ha, hz]
  exact if_pos (by simpa [or_assoc] using h)

variable (h16 : 16 ≤ c.pointCount) (hs : (z.stamp - a.stamp).toNat ≠ 0) (ht : (z.time - a.time).toNat ≠ 0)
include h16 hs ht

/-- A window with enough points and something to divide is judged by its measured step (R104, R105). -/
theorem judgeWindow_of_measured {m : Nat} (hm : measuredStep (z.stamp - a.stamp).toNat period (z.time - a.time).toNat = m) :
    judgeWindow period c
      = if 4 * c.classLimit < ((m : Int) - 16777216).natAbs then .wild m
        else .accepted m (clampNat (16777216 - c.classLimit) (16777216 + c.classLimit) m)
          (clampNat (16777216 - c.classLimit) (16777216 + c.classLimit) m != m) := by
  subst hm
  simp only [judgeWindow, ha, hz]
  exact if_neg (by simp [-BitVec.toNat_sub, h16, hs, ht])

end

/-- A window that is due closes with its verdict (R103, R104). -/
theorem driftWindowClose_of_due {k : SlotId} {s : State} {v : Verdict} (hopen : s.convs[k].windowOpen = true)
    (hage : 65 ≤ (s.air.interval - s.convs[k].openingInterval).toNat) (hloss : linkLossDue s.slots[k] = false)
    (hv : judgeWindow s.call.rate.period s.convs[k] = v) : driftWindowClose k s = closeWindowWith k v s := by
  subst hv
  exact if_pos (by simp only [windowCloseDue, hopen, hage, hloss, decide_true, Bool.not_false, Bool.and_true])

/-- DRIFT_HOLD is raised after an accepted window with CLAMPED exactly when the clamp changed the target (R107). -/
theorem raiseHold_accepted (k : SlotId) (m target : Nat) (s : State) :
    raiseHold k (Verdict.accepted m target (target != m)).hold s
      = if target = m then s else raiseAt Source.driftHold 3 k s := by
  by_cases h : target = m <;> simp [Verdict.hold, raiseHold, h]

/-! ### The choice of the next frame (R110, R111) -/

/-- A stamp lies `m` past the edge when it is the edge moved on by `m`, for `m` below half the range (R111). -/
theorem stampGap_eq_natCast_iff (edge stamp : Count32) {m : Nat} (hm : m < 2147483648) :
    stampGap edge stamp = m ↔ stamp = edge + BitVec.ofNat 32 m := by
  have hvalue : (BitVec.ofNat 32 m).toInt = m := by
    have hnat : (BitVec.ofNat 32 m).toNat = m := Nat.mod_eq_of_lt (by omega)
    rw [BitVec.toInt_eq_toNat_of_lt (by omega), hnat]
  rw [stampGap, ← hvalue, BitVec.toInt_inj, BitVec.sub_eq_iff_eq_add, BitVec.add_comm]

/-- A stamp has no gap when it is the edge (R111). -/
theorem stampGap_eq_zero_iff (edge stamp : Count32) : stampGap edge stamp = 0 ↔ stamp = edge := by
  simpa using stampGap_eq_natCast_iff edge stamp (m := 0) (by decide)

section
variable {n : Nat} {r : Reader}

/-- With fill frames pending the next frame is one of a quarter of the fill source (R111, R112). -/
theorem chooseNext_of_pending (h : 0 < r.conv.fillPending) : chooseNext n r = some (fillFrame n 4 r.conv, r) := if_pos h

variable (hp : r.conv.fillPending = 0)
include hp

/-- With no fill frame pending and no entry to enter there is no next frame (R110). -/
theorem chooseNext_of_no_entry (h : nextUnentered r.conv r.queue = none) : chooseNext n r = none := by
  rw [chooseNext, if_neg (by omega), h]

variable {e : QueueEntry} (he : nextUnentered r.conv r.queue = some e)
include he

/-- An entry at the claimed edge continues the stream (R111). -/
theorem chooseNext_of_no_gap (h : stampGap r.conv.claimedEdge e.stamp = 0) : chooseNext n r = some (.real, r) := by
  simp only [chooseNext, hp, he, h, lt_irrefl, if_true, if_false]

/-- An entry one frame past the claimed edge calls for one fill frame (R111). -/
theorem chooseNext_of_one_missing (hn : 0 < n) (h : stampGap r.conv.claimedEdge e.stamp = n) :
    chooseNext n r = some (fillFrame n 2 r.conv, { r with conv := { r.conv with fillPending := 1 } }) := by
  have h0 : (n : Int) ≠ 0 := by omega
  simp only [chooseNext, hp, he, h, h0, lt_irrefl, if_true, if_false]

/-- An entry two frames past the claimed edge calls for two fill frames (R111). -/
theorem chooseNext_of_two_missing (hn : 0 < n) (h : stampGap r.conv.claimedEdge e.stamp = 2 * n) :
    chooseNext n r = some (fillFrame n 2 r.conv, { r with conv := { r.conv with fillPending := 2 } }) := by
  have h0 : (2 * n : Int) ≠ 0 := by omega
  have h1 : (2 * n : Int) ≠ n := by omega
  simp only [chooseNext, hp, he, h, h0, h1, lt_irrefl, if_true, if_false]

/-- An entry at any other gap is a discontinuity (R111). -/
theorem chooseNext_of_discontinuity (h0 : stampGap r.conv.claimedEdge e.stamp ≠ 0)
    (h1 : stampGap r.conv.claimedEdge e.stamp ≠ n) (h2 : stampGap r.conv.claimedEdge e.stamp ≠ 2 * n) :
    chooseNext n r
      = some (.real,
        { r with
          conv := { r.conv.abandonWindow with claimedEdge := e.stamp, fraction := 0 }
          queue := { r.queue with
            stats := { r.queue.stats with discontinuities := bump r.queue.stats.discontinuities } } }) := by
  simp only [chooseNext, hp, he, h0, h1, h2, lt_irrefl, if_false]

end

/-- Entering a real frame: the head of the queue is read, and the claimed edge lies N past its stamp (R112). -/
theorem enterFrame_real (n : Nat) {r : Reader} {e : QueueEntry} {rest : List QueueEntry} (h : r.queue.entries = e :: rest) :
    enterFrame n .real r
      = { r with
        conv := { r.conv with
          current := .real, follower := .none, claimedEdge := e.stamp + BitVec.ofNat 32 n,
          fillSource := some (e.audio n) } } := by
  simp only [enterFrame, h, List.head?_cons]

end Sys2Proof.Machine

open Sys2Proof Sys2Proof.Machine

/-- Settles O37: the window is due, so its verdict decides, and the verdict follows from the points and the measured step. -/
theorem driftWindowIsJudged : Obligations.DriftWindowIsJudged := by
  intro k a z s hopen hage hloss ha hz
  refine ⟨_, _, _, _, rfl, rfl, rfl, rfl, fun hfew => ?_, fun h16 hs ht => ⟨fun hwild => ?_, fun hnear => ⟨_, rfl, ?_⟩⟩⟩
  · exact congrArg Host.Outcome.next
      (driftWindowClose_of_due hopen hage hloss (judgeWindow_of_fewPoints ha hz hfew))
  · have hv := (judgeWindow_of_measured ha hz h16 hs ht (measuredStep_eq _ s.call.rate.period _)).trans (if_pos hwild)
    exact congrArg Host.Outcome.next (driftWindowClose_of_due hopen hage hloss hv)
  · have hv := (judgeWindow_of_measured ha hz h16 hs ht (measuredStep_eq _ s.call.rate.period _)).trans
      (if_neg (Nat.not_lt.2 hnear))
    rw [← hz]
    exact congrArg Host.Outcome.next
      ((driftWindowClose_of_due hopen hage hloss hv).trans (raiseHold_accepted k _ _ _))

/-- Settles O38: rounding keeps a fraction of a difference within the difference, and the trim is at most 1,024 either way. -/
theorem conversionArithmeticIsBounded : Obligations.ConversionArithmeticIsBounded := by
  refine ⟨fun x0 x1 fraction hf => ?_, fun k s hbase hlimit => ?_⟩
  · rw [← roundHalfUp_scale, interpolate_toInt x0 x1 hf]
    obtain ⟨hlow, hhigh⟩ := interpolated_mem x0 x1 hf
    exact ⟨hlow, hhigh, rfl⟩
  · obtain ⟨hlow, hhigh⟩ := hbase k
    have hstep := blockStep_natCast (c := s.convs[k]) s.queues[k] (by omega)
    exact ⟨hstep, by omega, by omega⟩

/-- Settles O39, by the fill frames pending, the oldest entry not entered and its gap; and by the frame entered. -/
theorem nextFrameIsChosenByGap : Obligations.NextFrameIsChosenByGap := by
  refine ⟨fun n r hpos hn => ⟨chooseNext_of_pending, fun hp => ⟨chooseNext_of_no_entry hp, fun e he => ?_⟩⟩,
    fun n r => ⟨fun e rest h => enterFrame_real n h, fun samples => rfl⟩⟩
  have hzero := stampGap_eq_zero_iff r.conv.claimedEdge e.stamp
  have hone := stampGap_eq_natCast_iff r.conv.claimedEdge e.stamp (m := n) (by omega)
  have htwo := stampGap_eq_natCast_iff r.conv.claimedEdge e.stamp (m := 2 * n) (by omega)
  rw [Nat.cast_mul] at htwo
  refine ⟨fun h => chooseNext_of_no_gap hp he (hzero.2 h), fun missing hm h => ?_, fun h0 h1 h2 => ?_⟩
  · rcases hm with rfl | rfl
    · exact chooseNext_of_one_missing hp he hpos (hone.2 (by rwa [Nat.one_mul] at h))
    · exact chooseNext_of_two_missing hp he hpos (htwo.2 h)
  · exact chooseNext_of_discontinuity hp he (mt hzero.1 h0) (mt hone.1 h1) (mt htwo.1 h2)
end

section
/-! What a conversion leaves of a stream's settings: the class limit, the base step, and sixteen outcomes in the quality window (R99,
R106, R108). -/

namespace Sys2Proof.Machine

open Sys2Proof

/-- The settings that the laws of the audio path look at in a stream: its class limit, its base step and its quality window. -/
def Reader.settings (r : Reader) : Nat × Nat × List BlockOutcome := (r.conv.classLimit, r.conv.baseStep, r.queue.quality)

/-! ### Frames entered and finished (R88, R109 to R113) -/

theorem settings_finishCurrent (r : Reader) : (finishCurrent r).settings = r.settings := by
  unfold finishCurrent
  split <;> rfl

theorem settings_starve (r : Reader) : (starve r).settings = r.settings := settings_finishCurrent r

theorem settings_enterFrame (n : Nat) (f : InFrame) (r : Reader) : (enterFrame n f r).settings = r.settings := by
  unfold enterFrame
  split
  · rfl
  · split <;> rfl
  · rfl

theorem settings_chooseNext {n : Nat} {r chosen : Reader} {f : InFrame} (h : chooseNext n r = some (f, chosen)) :
    chosen.settings = r.settings := by
  unfold chooseNext at h
  split at h
  · cases h; rfl
  · split at h
    · cases h
    · split at h
      · cases h; rfl
      · split at h
        · cases h; rfl
        · split at h <;> (cases h; rfl)

theorem settings_enterNext (n : Nat) (r : Reader) : (enterNext n r).settings = r.settings := by
  unfold enterNext
  split
  · split
    · exact settings_starve r
    · next f chosen hc => exact (settings_enterFrame n f chosen).trans (settings_chooseNext hc)
  · exact settings_enterFrame n _ r

theorem settings_chooseFollower (n : Nat) (r : Reader) : (chooseFollower n r).settings = r.settings := by
  unfold chooseFollower
  split
  · exact settings_starve r
  · next f chosen hc => exact (settings_chooseNext hc : chosen.settings = r.settings)

theorem settings_readyFrames (n : Nat) (r : Reader) : (readyFrames n r).settings = r.settings := by
  have hstands : (if r.conv.current = .none then enterNext n r else r).settings = r.settings := by
    split
    · exact settings_enterNext n r
    · rfl
  unfold readyFrames
  generalize (if r.conv.current = .none then enterNext n r else r) = stands at hstands
  dsimp only
  split
  · exact hstands
  · split
    · exact hstands
    · split
      · exact (settings_chooseFollower n stands).trans hstands
      · exact hstands

theorem settings_advance (n step : Nat) (r : Reader) : (advance n step r).settings = r.settings := by
  have hfinished : ∀ moved : Reader, moved.settings = r.settings → (finishCurrent moved).settings = r.settings :=
    fun moved h => (settings_finishCurrent moved).trans h
  unfold advance
  dsimp only
  split
  · rfl
  · split
    · exact hfinished _ rfl
    · exact (settings_enterFrame n _ _).trans (hfinished _ rfl)

/-! ### Blocks (R99, R108 to R117) -/

theorem settings_readSample (n step : Nat) (r : Reader) : (readSample n step r).settings = r.settings := by
  unfold readSample
  dsimp only
  split
  · rfl
  · split
    · exact settings_readyFrames n r
    · exact (settings_advance n step _).trans (settings_readyFrames n r)

theorem settings_readSamples (n step count : Nat) (r : Reader) : (readSamples n step count r).settings = r.settings := by
  induction count generalizing r with
  | zero => rfl
  | succ k ih => exact (ih _).trans (settings_readSample n step r)

theorem settings_blockBegun (n step : Nat) (c : Converter) (q : RxQueue) :
    (blockBegun n step c q).settings = (c.classLimit, c.baseStep, q.quality) := by
  unfold blockBegun
  split
  · split <;> rfl
  · rfl

/-- The oldest outcome leaves the window as the newest enters it (R99). -/
theorem quality_length_completed {window : List BlockOutcome} (o : BlockOutcome) (h : window.length = 16) :
    (window.tail ++ [o]).length = 16 := by
  rw [List.length_append, List.length_tail, h]
  rfl

/-- A conversion leaves the class limit and the base step, and sixteen outcomes in a window of sixteen (R99, R106, R108). -/
theorem convertBlock_settings (n : Nat) (c : Converter) (q : RxQueue) :
    (convertBlock n c q).conv.classLimit = c.classLimit ∧ (convertBlock n c q).conv.baseStep = c.baseStep
      ∧ (q.quality.length = 16 → (convertBlock n c q).queue.quality.length = 16) := by
  cases hs : q.state with
  | stopped =>
    have habsent : convertBlock n c q = ⟨c, q, none, false⟩ := by simp only [convertBlock, hs]
    rw [habsent]
    exact ⟨rfl, rfl, id⟩
  | filling =>
    have habsent : convertBlock n c q = ⟨c, q, none, false⟩ := by simp only [convertBlock, hs]
    rw [habsent]
    exact ⟨rfl, rfl, id⟩
  | playing =>
    have hread := (settings_readSamples n (blockStep c q) n _).trans (settings_blockBegun n (blockStep c q) c q)
    simp only [Reader.settings, Prod.mk.injEq] at hread
    obtain ⟨hlimit, hbase, hquality⟩ := hread
    have hplays : convertBlock n c q = convertPlaying n c q := by simp only [convertBlock, hs]
    rw [hplays, convertPlaying_eq]
    dsimp only
    rw [completeBlock_eq]
    refine ⟨hlimit, hbase, fun h => quality_length_completed _ ?_⟩
    rw [hquality]
    exact h
  | starved =>
    have hstarved : convertBlock n c q = convertStarved n c q := by simp only [convertBlock, hs]
    rw [hstarved, convertStarved_eq]
    exact ⟨rfl, rfl, fun h => quality_length_completed _ h⟩

end Sys2Proof.Machine
end

section
/-! What a command does to the laws of the audio path (R74, R75, R99, R106, R121, R147, R155), and what the updates of one part of the
state do to them. -/

namespace Sys2Proof.Machine

open Sys2Proof

/-- What the laws of the audio path look at. -/
def State.audioPart (s : State) :=
  (s.mix.active, s.mix.shadow, s.convs, s.watches, s.queues, s.stores, s.port.state, s.port.downGathering.length,
    s.port.wordIndex, s.blockSamples)

/-- From `s` to `t` each law of the audio path is kept. -/
structure AudioKept (s t : State) : Prop where
  gains : gainLaw s → gainLaw t
  baseSteps : baseStepLaw s → baseStepLaw t
  watches : watchLaw s → watchLaw t
  quality : qualityLaw s → qualityLaw t
  stores : storeLaw s → storeLaw t
  gathering : gatheringLaw s → gatheringLaw t

namespace AudioKept

theorem refl (s : State) : AudioKept s s := ⟨id, id, id, id, id, id⟩

theorem trans {s t u : State} (h : AudioKept s t) (g : AudioKept t u) : AudioKept s u where
  gains := g.gains ∘ h.gains
  baseSteps := g.baseSteps ∘ h.baseSteps
  watches := g.watches ∘ h.watches
  quality := g.quality ∘ h.quality
  stores := g.stores ∘ h.stores
  gathering := g.gathering ∘ h.gathering

/-- Where all that the laws look at stands, each law is kept as it is. -/
theorem untouched {s t : State} (h : t.audioPart = s.audioPart) : AudioKept s t := by
  simp only [State.audioPart, Prod.mk.injEq] at h
  obtain ⟨hactive, hshadow, hconvs, hwatches, hqueues, hstores, hport, hgathered, hword, hblock⟩ := h
  constructor
  · unfold gainLaw; rw [hactive, hshadow]; exact id
  · unfold baseStepLaw; rw [hconvs]; exact id
  · unfold watchLaw; rw [hwatches]; exact id
  · unfold qualityLaw; rw [hqueues]; exact id
  · unfold storeLaw; rw [hstores]; exact id
  · unfold gatheringLaw; rw [hport, hgathered, hword, hblock]; exact id

/-- Another port matters for the law of gathering alone. -/
theorem withPort {s t : State} (h : AudioKept s t) (p : PortRecord)
    (hp : gatheringLaw s → gatheringLaw { t with port := p }) : AudioKept s { t with port := p } :=
  { h with gathering := hp }

end AudioKept

/-! ### The laws, record by record -/

/-- The base step lies within the class limit of 2^24 (R106). -/
def Converter.StepBounded (c : Converter) : Prop :=
  16777216 ≤ c.baseStep + c.classLimit ∧ c.baseStep ≤ 16777216 + c.classLimit

/-- The fields of a watch stay in their ranges, and a run that has not fired is below its count (R147, R148, R150). -/
def Watch.InRange (w : Watch) : Prop :=
  w.level ≤ 32767 ∧ 1 ≤ w.count ∧ w.count ≤ 255 ∧ w.run ≤ w.count ∧ (w.fired = false → w.run < w.count)

theorem baseStepLaw_iff (s : State) : baseStepLaw s ↔ ∀ k : SlotId, s.convs[k].StepBounded := Iff.rfl

theorem watchLaw_iff (s : State) : watchLaw s ↔ ∀ j : SinkId, s.watches[j].InRange := Iff.rfl

/-- What every element of a vector has, every element has once one has been replaced by another that has it. -/
theorem forall_set {α : Type} {n : Nat} {P : α → Prop} {v : Vector α n} {k : Fin n} {x : α} (hx : P v[k] → P x)
    (h : ∀ j : Fin n, P v[j]) (j : Fin n) : P (v.set k x)[j] := by
  by_cases hj : j = k
  · rw [hj, set_get]; exact hx (h k)
  · rw [set_get_other v hj]; exact h j

/-- What every element of a vector has, every element has once a function that keeps it has been applied to each. -/
theorem forall_map {α : Type} {n : Nat} {P : α → Prop} {v : Vector α n} {f : α → α} (hf : ∀ x : α, P x → P (f x))
    (h : ∀ j : Fin n, P v[j]) (j : Fin n) : P (v.map f)[j] :=
  (Vector.getElem_map f j.isLt).symm ▸ hf _ (h j)

/-! ### Updates of one part of the state -/

/-- Another queue matters by the length of its quality window. -/
theorem audio_setQueue {k : SlotId} {q : RxQueue} {s : State}
    (h : s.queues[k].quality.length = 16 → q.quality.length = 16) : AudioKept s (s.setQueue k q) :=
  ⟨id, id, id, forall_set (P := fun x : RxQueue => x.quality.length = 16) h, id, id⟩

/-- Another converter record matters by its class limit and its base step. -/
theorem audio_setConv {k : SlotId} {c : Converter} {s : State} (h : s.convs[k].StepBounded → c.StepBounded) :
    AudioKept s (s.setConv k c) :=
  ⟨id, forall_set (P := Converter.StepBounded) h, id, id, id, id⟩

/-- Another store matters by its length. -/
theorem audio_setStore {k : SlotId} {store : List Block} {s : State} (h : s.stores[k].length ≤ 2 → store.length ≤ 2) :
    AudioKept s (s.setStore k store) :=
  ⟨id, id, id, id, forall_set (P := fun x : List Block => x.length ≤ 2) h, id⟩

/-- Another watch matters by its ranges. -/
theorem audio_setWatch {j : SinkId} {w : Watch} {s : State} (h : s.watches[j].InRange → w.InRange) :
    AudioKept s (s.setWatch j w) :=
  ⟨id, id, forall_set (P := Watch.InRange) h, id, id, id⟩

/-- The notices matter to no law of the audio path. -/
theorem audio_withNotices (n : Notices) (s : State) : AudioKept s { s with notices := n } :=
  .untouched rfl

theorem audio_raiseAt (src : SourceId) (code : Byte) (index : Nat) (s : State) : AudioKept s (raiseAt src code index s) :=
  .untouched rfl

/-- The shadow bank copied keeps the gains, for it keeps its own (R121, R124). -/
theorem audio_copied (s : State) : AudioKept s { s with mix := s.mix.copied } :=
  ⟨fun ⟨_, hshadow⟩ => ⟨hshadow, hshadow⟩, id, id, id, id, id⟩

/-! ### The taking of a request (R173, R174) -/

theorem audio_takeWith (kind : Byte) (m : Message) {answer : State → Answer} (h : ∀ u : State, AudioKept u (answer u).state)
    (s : State) : AudioKept s (takeWith kind m answer s) := by
  by_cases ht : takeable m s
  · rw [takeWith_of_takeable ht]
    exact AudioKept.trans (t := dropRequest s) (.untouched rfl) ((h (dropRequest s)).trans (.untouched rfl))
  · rw [takeWith_of_not_takeable ht]
    exact .refl s

theorem audio_takeRequest (kind tag : Byte) (body : List Byte) {answer : State → Answer}
    (h : ∀ u : State, AudioKept u (answer u).state) (s : State) : AudioKept s (takeRequest kind tag body answer s) :=
  audio_takeWith _ _ h s

/-! ### The call (R14, R17) -/

/-- The completion of a closing copies a pending commit, stops the port, begins the converters anew with the base steps they have, and
empties the stores (R14). -/
theorem audio_completeClosing (s : State) : AudioKept s (completeClosing s) := by
  rw [completeClosing_eq]
  refine ⟨fun h => ?_, forall_map (P := Converter.StepBounded) fun _ => id, id, id, fun _ k => ?_, fun _ => nofun⟩
  · show gainLaw { s with mix := if s.mix.commitPending then s.mix.copied else s.mix }
    split
    · exact (audio_copied s).gains h
    · exact h
  · exact (congrArg List.length (Vector.getElem_replicate k.isLt)).trans_le (Nat.zero_le 2)

theorem audio_settleClosing (s : State) : AudioKept s (settleClosing s) := by
  unfold settleClosing
  split
  · exact audio_completeClosing s
  · exact .refl s

/-! ### Slots (R59, R66) -/

theorem audio_freeSlot (k : SlotId) (s : State) : AudioKept s (freeSlot k s) := by
  have hreleased : AudioKept s (releaseSlot k s) := by
    rw [releaseSlot_eq]
    exact .untouched rfl
  exact hreleased.trans (audio_settleClosing _)

theorem audio_endJoin (result : Byte) (k : SlotId) (s : State) : AudioKept s (endJoin result k s) :=
  (audio_freeSlot k s).trans (.untouched rfl)

/-- A slot's leaving of STREAMING flushes its queue, clears its converter and empties its store (R66). -/
theorem audio_leaveStreaming (k : SlotId) (s : State) : AudioKept s (leaveStreaming k s) := by
  have hqueue : AudioKept s (s.setQueue k s.queues[k].flush) := audio_setQueue id
  have hended := (hqueue.trans (audio_setConv (k := k) (c := s.convs[k].leaveStreaming) id)).trans
    (audio_setStore (k := k) (store := []) fun _ => Nat.zero_le 2)
  unfold leaveStreaming
  rw [removeMember_fields]
  exact hended.trans (.untouched rfl)

theorem audio_enterLeaving (k : SlotId) (s : State) : AudioKept s (enterLeaving k s) :=
  (audio_leaveStreaming k s).trans (.untouched rfl)

theorem audio_closeSlot (k : SlotId) (s : State) : AudioKept s (closeSlot k s) := by
  rcases closeSlot_cases k s with ⟨-, he⟩ | ⟨-, he⟩ | ⟨-, -, he⟩ <;> rw [he]
  · exact .untouched rfl
  · exact audio_enterLeaving k s
  · exact .refl s

theorem audio_enterClosing (reason : CloseReason) (s : State) : AudioKept s (enterClosing reason s) :=
  have hbegun : AudioKept (slotsSentAway s) (closingBegun reason s) := .untouched rfl
  ((forEachSlot_of_trans .trans audio_closeSlot s).trans hbegun).trans (audio_settleClosing _)

end Sys2Proof.Machine
end

section
/-! What the block event, the calls and the Call Port do to the laws of the audio path: `audio_f` says that `f` keeps them. -/

namespace Sys2Proof.Machine

open Sys2Proof

/-! ### The block event (R74, R99, R106, R118, R125, R147) -/

theorem audio_convertStream (k : SlotId) (s : State) : AudioKept s (convertStream k s) := by
  have hconversion : (s.queues[k].quality.length = 16 → (conversionOf k s).queue.quality.length = 16)
      ∧ (s.convs[k].StepBounded → (conversionOf k s).conv.StepBounded) := by
    unfold conversionOf
    split
    · obtain ⟨hlimit, hbase, hquality⟩ := convertBlock_settings s.blockSamples s.convs[k] s.queues[k]
      refine ⟨hquality, fun h => ?_⟩
      unfold Converter.StepBounded
      rw [hlimit, hbase]
      exact h
    · exact ⟨id, id⟩
  obtain ⟨hqueue, hconv⟩ := hconversion
  rw [convertStream_fields]
  exact ((audio_setConv hconv).trans (audio_setQueue (k := k) hqueue)).trans (.untouched rfl)

theorem audio_formVoices (outputs : StreamOutputs) (s : State) : AudioKept s (formVoices outputs s) := by
  unfold formVoices
  rw [formVoiceAt_fields 1, formVoiceAt_fields 0]
  exact .untouched rfl

theorem audio_commitAtBlock (s : State) : AudioKept s (commitAtBlock s) := by
  unfold commitAtBlock
  split
  · exact (audio_copied s).trans (.untouched rfl)
  · exact .refl s

theorem audio_accountClamps (n : Nat) (j : SinkId) (terms : List Term) (s : State) :
    AudioKept s (accountClamps n j terms s) := by
  rw [accountClamps_fields]
  exact .untouched rfl

/-- A watch that a block is handed to fires as its run reaches its count, so that a run that has not fired stays below it (R147,
R148). -/
theorem Watch.InRange.after {w : Watch} (h : w.InRange) (block : List Sample) : (w.after block).InRange := by
  obtain ⟨hlevel, hpos, hcount, hrun, hbelow⟩ := h
  unfold Watch.after
  split
  · next he =>
    have hfired : w.fired = false := by
      simp only [Watch.evaluated, Bool.and_eq_true, Bool.not_eq_true'] at he
      exact he.2
    have hlt := hbelow hfired
    have hle : w.runAfter block ≤ w.count := by
      unfold Watch.runAfter
      split <;> omega
    exact ⟨hlevel, hpos, hcount, hle, fun hne => Nat.lt_of_le_of_ne hle (beq_eq_false_iff_ne.1 hne)⟩
  · exact ⟨hlevel, hpos, hcount, hrun, hbelow⟩

theorem audio_handToWatch (j : SinkId) (block : List Sample) (s : State) : AudioKept s (handToWatch j block s) := by
  rw [handToWatch_fields]
  exact (audio_setWatch (j := j) fun h => h.after block).trans (.untouched rfl)

theorem audio_appendToStore (k : SlotId) (b : Block) (s : State) : AudioKept s (appendToStore k b s) := by
  rw [appendToStore_fields]
  refine (audio_setStore (k := k) fun h => ?_).trans (.untouched rfl)
  rw [List.length_append, List.length_singleton]
  split
  · rw [List.length_tail]; omega
  · omega

theorem audio_formUp (n : Nat) (src : Sources) (s : State) : AudioKept s (formUp n src s) :=
  (audio_accountClamps n 0 _ s).trans (audio_handToWatch 0 _ _)

theorem audio_formEar (n : Nat) (src : Sources) (k : SlotId) (s : State) : AudioKept s (formEar n src k s) := by
  unfold formEar
  split
  · exact (audio_accountClamps n (earSink k) _ s).trans ((audio_appendToStore k _ _).trans (audio_handToWatch _ _ _))
  · exact .refl s

theorem audio_advanceBlock (s : State) : AudioKept s (advanceBlock s) :=
  .untouched rfl

/-- A block event keeps the laws stage by stage (R155). -/
theorem audio_formBlock (down : List Sample) (s : State) : AudioKept s (formBlock down s) :=
  have hmixed : AudioKept s (beforeMix s) :=
    (forEachSlot_of_trans .trans audio_convertStream s).trans ((audio_formVoices _ _).trans (audio_commitAtBlock _))
  have hsinks : AudioKept (beforeMix s) (formSinks s.blockSamples (blockSources down s) (beforeMix s)) :=
    (audio_formUp _ _ _).trans (forEachSlot_of_trans .trans (audio_formEar _ _) _)
  (hmixed.trans hsinks).trans (audio_advanceBlock _)

/-! ### Syncs (R152 to R155) -/

/-- A block has samples at every rate (Table 0.1). -/
theorem blockSamples_pos (s : State) : 0 < s.blockSamples := by
  unfold State.blockSamples
  cases s.call.rate <;> decide

theorem audio_takeLock (s : State) : AudioKept s (takeLock s) := by
  unfold takeLock
  split <;> exact .untouched rfl

/-- The lock event begins a block whose first word is gathered (R154). -/
theorem audio_huntSync (first second : BitVec 16) (s : State) : AudioKept s (huntSync first second s) := by
  unfold huntSync
  split
  · unfold lockPort
    exact ((AudioKept.refl s).withPort _ fun _ _ => ⟨rfl, blockSamples_pos s⟩).trans (audio_takeLock _)
  · exact .untouched rfl

/-- A sync in SYNCED gathers the word of the next place, or begins the next block with its first word (R152, R155). -/
theorem audio_syncInStep (first second : BitVec 16) (s : State) : AudioKept s (syncInStep first second s) := by
  by_cases hi : s.port.wordIndex + 1 < s.blockSamples
  · rw [syncInStep_inside first second hi]
    refine (AudioKept.refl s).withPort _ fun h hsync => ?_
    obtain ⟨hlength, -⟩ := h hsync
    exact ⟨(List.length_append ..).trans (congrArg (· + 1) hlength), hi⟩
  · have hformed : AudioKept s (formBlock s.port.downGathering (referenced s)) :=
      AudioKept.trans (t := referenced s) (.untouched rfl) (audio_formBlock _ _)
    rw [syncInStep_last first second (Nat.not_lt.1 hi)]
    exact hformed.withPort _ fun _ _ => ⟨rfl, blockSamples_pos _⟩

theorem audio_takeSync (first second : BitVec 16) (s : State) : AudioKept s (takeSync first second s) := by
  unfold takeSync
  split
  · exact .refl s
  · exact audio_huntSync first second s
  · exact audio_huntSync first second s
  · exact audio_syncInStep first second s

/-! ### Sync loss and free-running (R9, R11, R156, R157) -/

theorem audio_countFreeRun (s : State) : AudioKept s (countFreeRun s) := by
  unfold countFreeRun
  split
  · split
    · exact AudioKept.trans (t := { s with call := { s.call with freeRunCount := 200 } }) (.untouched rfl)
        (audio_enterClosing .syncLost _)
    · exact .untouched rfl
  · exact .refl s

/-- A free-running block event gathers nothing, and leaves the words gathered and the rate (R157). -/
theorem audio_freeRunBlock (s : State) : AudioKept s (freeRunBlock s) := by
  obtain ⟨hcall, -⟩ := formBlock_beside (silence s) s
  have hformed : AudioKept s (freeRunFormed s) := (audio_formBlock (silence s) s).withPort _ fun h hsync => by
    show _ ∧ _ < (formBlock (silence s) s).call.rate.samples
    rw [hcall]
    exact h hsync
  rw [freeRunBlock_eq]
  exact hformed.trans (audio_countFreeRun _)

/-- Sync loss leaves SYNCED (R156). -/
theorem audio_syncLost (s : State) : AudioKept s (syncLost s) := by
  rw [syncLost_fields]
  exact ⟨id, id, id, id, id, fun _ => nofun⟩

theorem audio_postponeFreeRun (s : State) : AudioKept s (postponeFreeRun s) :=
  .untouched rfl

theorem audio_syncLoss (s : State) : AudioKept s (syncLoss s) := by
  have hrun := (audio_syncLost s).trans (audio_freeRunBlock (syncLost s))
  unfold syncLoss
  split
  · unfold declareSyncLoss
    dsimp only
    split
    · exact hrun.trans (audio_postponeFreeRun _)
    · split
      · exact hrun
      · exact audio_syncLost s
  · exact .refl s

theorem audio_freeRunningBlockEvent (s : State) : AudioKept s (freeRunningBlockEvent s) := by
  unfold freeRunningBlockEvent
  split
  · exact audio_freeRunBlock s
  · exact .refl s

/-! ### The calls (R4 to R13) -/

/-- CALL_OPEN sets the rate as it sets the port to hunt (R4, R158). -/
theorem audio_callOpen (body : List Byte) (s : State) : AudioKept s (callOpen body s).state := by
  unfold callOpen
  split
  · split
    · split
      · exact ⟨id, id, id, id, id, fun _ => nofun⟩
      · exact .refl s
    · exact .refl s
  · exact .refl s

theorem audio_callHold (body : List Byte) (s : State) : AudioKept s (callHold body s).state := by
  unfold callHold
  split
  · split <;> exact .untouched rfl
  · exact .refl s

theorem audio_callResume (body : List Byte) (s : State) : AudioKept s (callResume body s).state := by
  unfold callResume
  split
  · split <;> exact .untouched rfl
  · exact .refl s

theorem audio_abandonOpening (reason : CloseReason) (s : State) : AudioKept s (abandonOpening reason s) :=
  ⟨id, id, id, id, id, fun _ => nofun⟩

theorem audio_callClose (body : List Byte) (s : State) : AudioKept s (callClose body s).state := by
  unfold callClose
  split
  · split
    · exact .refl s
    · exact audio_abandonOpening _ s
    · rw [answerOk_state]; exact audio_enterClosing _ s
    · rw [answerOk_state]; exact audio_enterClosing _ s
    · rw [answerOk_state]; exact audio_enterClosing _ s
    · exact .refl s
  · exact .refl s

theorem audio_callGet (body : List Byte) (s : State) : AudioKept s (callGet body s).state := by
  unfold callGet
  split <;> exact .refl s

theorem audio_lockTimeout (s : State) : AudioKept s (lockTimeout s) := by
  unfold lockTimeout
  split
  · exact audio_abandonOpening _ s
  · exact .refl s

end Sys2Proof.Machine
end

section
/-! What joining and leaving, the streams, the mix and the watches do to the laws of the audio path. -/

namespace Sys2Proof.Machine

open Sys2Proof

/-! ### Joining and leaving (R60 to R69) -/

theorem audio_earJoin (body : List Byte) (s : State) : AudioKept s (earJoin body s).state := by
  unfold earJoin
  split
  · split
    · split
      · exact .refl s
      · split
        · exact .refl s
        · exact .refl s
        · exact .refl s
        · split
          · split <;> exact .untouched rfl
          · exact .refl s
    · exact .refl s
  · exact .refl s

/-- A stream begins with sixteen GOOD outcomes, the base step 2^24 and an empty store (R63, R80, R101). -/
theorem audio_enterStreaming (k : SlotId) (d : Declared) (s : State) : AudioKept s (enterStreaming k d s) := by
  have hqueue : AudioKept s (s.setQueue k s.queues[k].begin) := audio_setQueue fun _ => List.length_replicate
  have hconv : (Converter.starting d.clockClass.limit s.call.rate.samples).StepBounded :=
    ⟨Nat.le_add_right .., Nat.le_add_right ..⟩
  have hbegun := (hqueue.trans (audio_setConv (k := k) fun _ => hconv)).trans
    (audio_setStore (k := k) (store := []) fun _ => Nat.zero_le 2)
  rw [enterStreaming_eq]
  exact hbegun.trans (.untouched rfl)

theorem audio_joinAck (h : AirHeader) (accepts : Bool) (proof : Key) (s : State) : AudioKept s (joinAck h accepts proof s) := by
  unfold joinAck
  split
  · unfold answerJoin
    split
    · split
      · split
        · exact audio_enterStreaming _ _ s
        · exact audio_endJoin 4 _ s
      · exact .refl s
    · exact audio_endJoin 3 _ s
  · exact .refl s

theorem audio_joinNoAnswer (k : SlotId) (s : State) : AudioKept s (joinNoAnswer k s) := by
  unfold joinNoAnswer
  split
  · exact audio_endJoin 5 k s
  · exact .refl s

theorem audio_earLeave (body : List Byte) (s : State) : AudioKept s (earLeave body s).state := by
  unfold earLeave
  split
  · split
    · exact .refl s
    · split
      · exact .refl s
      · exact audio_endJoin 6 _ s
      · exact audio_enterLeaving _ s
      · exact .refl s
  · exact .refl s

theorem audio_leaveAck (h : AirHeader) (s : State) : AudioKept s (leaveAck h s) := by
  unfold leaveAck
  split
  · exact audio_freeSlot _ s
  · exact .refl s

theorem audio_leaveUnanswered (k : SlotId) (s : State) : AudioKept s (leaveUnanswered k s) := by
  unfold leaveUnanswered
  split
  · exact audio_freeSlot k s
  · exact .refl s

theorem audio_linkLoss (k : SlotId) (s : State) : AudioKept s (linkLoss k s) := by
  have hended : AudioKept s (endStream k s) := by
    unfold endStream
    split
    · exact audio_leaveStreaming k s
    · exact .refl s
  unfold linkLoss
  split
  · exact (hended.trans (audio_freeSlot k _)).trans (audio_raiseAt ..)
  · exact .refl s

/-! ### The receive queues (R65, R82 to R105) -/

/-- A point given to the drift tracker leaves the class limit and the base step (R102, R103). -/
theorem Converter.StepBounded.offered {c : Converter} (h : c.StepBounded) (e : QueueEntry) (interval : Count32) :
    (c.offered e interval).StepBounded := by
  unfold Converter.offered
  split
  · rw [givePoint_eq]
    split <;> exact h
  · exact h

/-- An overrun leaves the class limit and the base step (R86, R117). -/
theorem Converter.StepBounded.overrun {c : Converter} (h : c.StepBounded) : c.overrun.StepBounded := by
  rw [overrun_eq]
  split
  · exact h
  · split <;> exact h

theorem audio_acceptArrival (k : SlotId) (e : QueueEntry) (s : State) : AudioKept s (acceptArrival k e s) := by
  rw [acceptArrival_eq]
  refine ((audio_setConv (k := k) fun h => ?_).trans (audio_setQueue (k := k) fun h => ?_)).trans (.untouched rfl)
  · have hoffered := h.offered e s.air.interval
    dsimp only
    split
    · split
      · exact hoffered.overrun
      · exact hoffered
    · split
      · exact hoffered.overrun
      · exact hoffered
  · split <;> exact h

theorem audio_takeArrival (k : SlotId) (e : QueueEntry) (s : State) : AudioKept s (takeArrival k e s) := by
  have hdiscarded : ∀ (code : Byte) (stats : Stats), AudioKept s (discardArrival k code stats s) := fun code stats =>
    (audio_setQueue (k := k) (q := { s.queues[k] with stats := stats }) id).trans (.untouched rfl)
  unfold takeArrival
  split
  · exact .refl s
  · split
    · exact hdiscarded 1 _
    · split
      · exact hdiscarded 2 _
      · exact audio_acceptArrival k e s

theorem audio_noteHeard (k : SlotId) (downAck : Bool) (s : State) : AudioKept s (noteHeard k downAck s) := by
  unfold noteHeard
  split
  · exact .untouched rfl
  · exact AudioKept.trans (t := s.setSlot k { s.slots[k] with heard := true }) (.untouched rfl) (audio_setQueue id)

theorem audio_takeUp (h : AirHeader) (f : UpFrame) (s : State) : AudioKept s (takeUp h f s) := by
  unfold takeUp
  split
  · exact (audio_noteHeard _ _ s).trans (audio_takeArrival _ _ _)
  · exact .refl s

theorem audio_fillTimeout (k : SlotId) (s : State) : AudioKept s (fillTimeout k s) := by
  unfold fillTimeout
  split
  · exact (audio_setQueue (k := k) (q := { s.queues[k] with state := .playing }) id).trans (audio_setConv id)
  · exact .refl s

/-- A quarter of the way from a base step toward a target lies between the two (R105). -/
theorem steppedToward_mem (target base : Nat) :
    min target base ≤ steppedToward target base ∧ steppedToward target base ≤ max target base := by
  unfold steppedToward
  rcases Int.le_total base target with h | h
  · rw [Int.tdiv_eq_ediv_of_nonneg (by omega)]
    omega
  · rw [← Int.neg_neg ((target : Int) - base), Int.neg_tdiv, Int.tdiv_eq_ediv_of_nonneg (by omega)]
    omega

/-- An accepted window moves the base step toward a target that the clamp has put within the class limit (R105, R106). -/
theorem Converter.StepBounded.closeWindow {c : Converter} (h : c.StepBounded) (period : Nat) :
    (c.closeWindow (judgeWindow period c)).StepBounded := by
  obtain ⟨hlow, hhigh⟩ := h
  unfold judgeWindow
  split
  · split
    · exact ⟨hlow, hhigh⟩
    · dsimp only
      split
      · exact ⟨hlow, hhigh⟩
      · next a z _ _ _ _ =>
        generalize measuredStep (z.stamp - a.stamp).toNat period (z.time - a.time).toNat = m
        have htarget := clampNat_mem (low := 16777216 - c.classLimit) (high := 16777216 + c.classLimit) (by omega) m
        generalize clampNat (16777216 - c.classLimit) (16777216 + c.classLimit) m = target at htarget
        have hstep := steppedToward_mem target c.baseStep
        show 16777216 ≤ steppedToward target c.baseStep + c.classLimit
          ∧ steppedToward target c.baseStep ≤ 16777216 + c.classLimit
        omega
  · exact ⟨hlow, hhigh⟩

theorem audio_driftWindowClose (k : SlotId) (s : State) : AudioKept s (driftWindowClose k s) := by
  have hclosed : AudioKept s ((s.setConv k (s.convs[k].closeWindow (judgeWindow s.call.rate.period s.convs[k]))).setQueue k
      { s.queues[k] with stats := s.queues[k].stats.closeWindow (judgeWindow s.call.rate.period s.convs[k]) }) :=
    (audio_setConv fun h => h.closeWindow _).trans (audio_setQueue id)
  unfold driftWindowClose
  split
  · unfold closeWindowWith raiseHold
    split
    · exact hclosed.trans (.untouched rfl)
    · exact hclosed
  · exact .refl s

theorem audio_queueSet (body : List Byte) (s : State) : AudioKept s (queueSet body s).state := by
  unfold queueSet
  split
  · dsimp only
    split
    · exact ⟨id, id, id, forall_map (P := fun x : RxQueue => x.quality.length = 16) fun _ => id, id, id⟩
    · split
      · exact audio_setQueue id
      · exact .refl s
  · exact .refl s

/-! ### MIX_SET (R121 to R123) -/

/-- The gains of an earbud sink are at most 16,384 (R121). -/
def EarRow.InRange (r : EarRow) : Prop := r.v0 ≤ 16384 ∧ r.v1 ≤ 16384 ∧ r.down ≤ 16384 ∧ r.own ≤ 16384

/-- The gains of a bank are in range when those of UP and of each earbud sink are (R120, R121). -/
theorem gainsInRange_iff (b : Bank) :
    gainsInRange b ↔ (b.up.v0 ≤ 16384 ∧ b.up.v1 ≤ 16384 ∧ b.up.down ≤ 16384) ∧ ∀ k : SlotId, b.ear[k].InRange := by
  have hears : (∀ k : SlotId, b.ear[k].InRange) ↔ ∀ r ∈ b.ear.toList, r.InRange := by
    simp only [Vector.mem_toList_iff, Vector.mem_iff_getElem]
    exact ⟨fun h r ⟨i, hi, hr⟩ => hr ▸ h ⟨i, hi⟩, fun h k => h _ ⟨k, k.isLt, rfl⟩⟩
  rw [hears]
  simp only [gainsInRange, Bank.gains, EarRow.InRange, List.forall_mem_append, List.forall_mem_flatMap, List.forall_mem_cons,
    List.not_mem_nil, false_implies, implies_true, and_true]

/-- An item is written with its gain clamped (R123). -/
theorem gainsInRange_write {b : Bank} (h : gainsInRange b) (item : MixItem) : gainsInRange (b.write item) := by
  have hclamp : ∀ g : Nat, clampNat 0 16384 g ≤ 16384 := fun g => (clampNat_mem (Nat.zero_le _) g).2
  rw [gainsInRange_iff] at h ⊢
  obtain ⟨⟨h0, h1, hdown⟩, hear⟩ := h
  cases item with
  | upCell source g =>
    cases source with
    | v0 => exact ⟨⟨hclamp g, h1, hdown⟩, hear⟩
    | v1 => exact ⟨⟨h0, hclamp g, hdown⟩, hear⟩
    | down => exact ⟨⟨h0, h1, hclamp g⟩, hear⟩
    | own => exact ⟨⟨h0, h1, hdown⟩, hear⟩
  | earCell k source g =>
    have hset : ∀ r : EarRow, (b.ear[k].InRange → r.InRange) → ∀ j : SlotId, (b.ear.set k r)[j].InRange :=
      fun _ hr => forall_set hr hear
    cases source with
    | v0 => exact ⟨⟨h0, h1, hdown⟩, hset _ fun ⟨_, e1, e2, e3⟩ => ⟨hclamp g, e1, e2, e3⟩⟩
    | v1 => exact ⟨⟨h0, h1, hdown⟩, hset _ fun ⟨e0, _, e2, e3⟩ => ⟨e0, hclamp g, e2, e3⟩⟩
    | down => exact ⟨⟨h0, h1, hdown⟩, hset _ fun ⟨e0, e1, _, e3⟩ => ⟨e0, e1, hclamp g, e3⟩⟩
    | own => exact ⟨⟨h0, h1, hdown⟩, hset _ fun ⟨e0, e1, e2, _⟩ => ⟨e0, e1, e2, hclamp g⟩⟩
  | mute j on => exact ⟨⟨h0, h1, hdown⟩, hear⟩

theorem gainsInRange_foldl_write (items : List MixItem) {b : Bank} (h : gainsInRange b) :
    gainsInRange (items.foldl (fun b item => b.write item) b) := by
  induction items generalizing b with
  | nil => exact h
  | cons item rest ih => exact ih (gainsInRange_write h item)

theorem audio_mixSet (body : List Byte) (s : State) : AudioKept s (mixSet body s).state := by
  unfold mixSet
  split
  · split
    · exact ⟨fun ⟨hactive, hshadow⟩ => ⟨hactive, gainsInRange_foldl_write _ hshadow⟩, id, id, id, id, id⟩
    · exact .refl s
  · exact .refl s

/-! ### The other requests of the mix, and the watches (R124, R126, R134, R149, R150) -/

theorem audio_mixCommit (body : List Byte) (s : State) : AudioKept s (mixCommit body s).state := by
  unfold mixCommit
  split
  · split
    · exact (audio_copied s).trans (.untouched rfl)
    · exact .untouched rfl
  · exact .refl s

theorem audio_mixGet (body : List Byte) (s : State) : AudioKept s (mixGet body s).state := by
  unfold mixGet
  split
  · split <;> exact .refl s
  · exact .refl s

theorem audio_sinkSet (body : List Byte) (s : State) : AudioKept s (sinkSet body s).state := by
  unfold sinkSet
  split
  · split <;> exact .untouched rfl
  · exact .refl s

/-- A watch set anew begins with run 0, below a count clamped to 1..255 (R150). -/
theorem audio_watchSet (body : List Byte) (s : State) : AudioKept s (watchSet body s).state := by
  unfold watchSet
  split
  · next sink kind low high count =>
    split
    · obtain ⟨-, hlevel⟩ := clampNat_mem (Nat.zero_le 32767) (number2 low high)
      obtain ⟨hpos, hcount⟩ := clampNat_mem (low := 1) (high := 255) (by decide) count.toNat
      exact audio_setWatch fun _ => ⟨hlevel, hpos, hcount, Nat.zero_le _, fun _ => hpos⟩
    · exact .refl s
  · exact .refl s

/-- A watch re-armed has run 0, below its count (R149). -/
theorem Watch.InRange.rearmed {w : Watch} (h : w.InRange) (told now : IndexSet) (j : SinkId) :
    (rearmed told now j w).InRange := by
  unfold Machine.rearmed
  split
  · obtain ⟨hlevel, hpos, hcount, -⟩ := h
    exact ⟨hlevel, hpos, hcount, Nat.zero_le _, fun _ => hpos⟩
  · exact h

theorem audio_noticeAck (body : List Byte) (s : State) : AudioKept s (noticeAck body s).state := by
  unfold noticeAck
  split
  · split
    · split
      · next report _ =>
        refine ⟨id, id, fun h => (?_ : ∀ j : SinkId, (rearmWatches report _ s.watches)[j].InRange), id, id, id⟩
        unfold rearmWatches
        split
        · exact fun j => (Vector.getElem_ofFn j.isLt).symm ▸ Watch.InRange.rearmed (h j) _ _ j
        · exact h
      · exact .refl s
    · exact .refl s
  · exact .refl s

end Sys2Proof.Machine
end

section
/-! What the Control Port, the roster, pairing and the slot plan do to the laws of the audio path, what every command does, and what
every step does. -/

namespace Sys2Proof.Machine

open Sys2Proof

/-! ### The requests that reach no part of the audio path -/

theorem audio_hello (body : List Byte) (s : State) : AudioKept s (hello body s).state := by
  unfold hello
  split <;> exact .refl s

theorem audio_resetSoft (body : List Byte) (s : State) : AudioKept s (resetSoft body s).state := by
  unfold resetSoft
  split <;> exact .untouched rfl

theorem audio_rosterPut (body : List Byte) (s : State) : AudioKept s (rosterPut body s).state := by
  rcases rosterPut_cases body s with ⟨st, he⟩ | ⟨i, c, -, -, -, he⟩ <;> rw [he] <;> exact .untouched rfl

theorem audio_rosterGet (body : List Byte) (s : State) : AudioKept s (rosterGet body s).state := by
  unfold rosterGet
  split
  · split <;> exact .refl s
  · exact .refl s

theorem audio_rosterDrop (body : List Byte) (s : State) : AudioKept s (rosterDrop body s).state := by
  unfold rosterDrop
  split
  · split
    · split <;> exact .untouched rfl
    · exact .refl s
  · exact .refl s

theorem audio_statsGet (body : List Byte) (s : State) : AudioKept s (statsGet body s).state := by
  unfold statsGet
  split
  · split <;> exact .refl s
  · exact .refl s

theorem audio_voiceSet (body : List Byte) (s : State) : AudioKept s (voiceSet body s).state := by
  unfold voiceSet
  split
  · split <;> exact .untouched rfl
  · exact .refl s

theorem audio_noticeRoute (body : List Byte) (s : State) : AudioKept s (noticeRoute body s).state := by
  unfold noticeRoute
  split
  · split
    · split <;> exact .untouched rfl
    · exact .refl s
  · exact .refl s

theorem audio_noticeMask (body : List Byte) (s : State) : AudioKept s (noticeMask body s).state := by
  unfold noticeMask
  split
  · split <;> exact .untouched rfl
  · exact .refl s

theorem audio_noticePoll (body : List Byte) (s : State) : AudioKept s (noticePoll body s).state := by
  unfold noticePoll
  split
  · split
    · split
      · split
        · exact .refl s
        · exact audio_withNotices _ s
      · exact .refl s
    · exact .refl s
  · exact .refl s

theorem audio_unknownKindRequest (kind tag : Byte) (body : List Byte) (s : State) :
    AudioKept s (if isRequestKind kind then s else takeWith 0x80 ⟨kind, tag, body⟩ (refuse .unknownKind) s) := by
  split
  · exact .refl s
  · exact audio_takeWith _ _ AudioKept.refl s

/-! ### The Control Port, and the reset (R2, R172 to R176) -/

theorem audio_setControl (c : ControlPort) (s : State) : AudioKept s (s.setControl c) :=
  .untouched rfl

theorem audio_discardFrame (code : Byte) (s : State) : AudioKept s (discardFrame code s) :=
  .untouched rfl

theorem audio_settleFrame (s : State) : AudioKept s (settleFrame s) := by
  unfold settleFrame
  split
  · exact .refl s
  · exact audio_discardFrame 2 s
  · exact audio_discardFrame 1 s
  · exact audio_setControl _ s

theorem audio_receiveByte (b : Byte) (s : State) : AudioKept s (receiveByte b s) := by
  unfold receiveByte
  split
  · exact .refl s
  · split
    · exact audio_discardFrame 4 s
    · exact (audio_setControl _ s).trans (audio_settleFrame _)

theorem audio_byteTimeout (s : State) : AudioKept s (byteTimeout s) := by
  unfold byteTimeout
  split
  · exact audio_discardFrame 3 s
  · exact .refl s

theorem audio_transmitStart (hostReady : Bool) (s : State) : AudioKept s (transmitStart hostReady s) := by
  unfold transmitStart
  split
  · unfold chooseFrame
    split
    · exact audio_setControl _ s
    · split
      · exact audio_setControl _ s
      · split
        · exact (audio_withNotices _ s).trans (audio_setControl _ _)
        · exact .refl s
  · exact .refl s

theorem audio_transmitDone (s : State) : AudioKept s (transmitDone s) := by
  unfold transmitDone
  split
  · exact .refl s
  · split <;> exact audio_setControl _ s

/-- The state after reset has every law (R2). -/
theorem audio_resetPart (s : State) : AudioKept s (resetPart s) := by
  obtain ⟨-, -, -, -, -, hstore, -, -, hquality, hbase, hgain, -, hwatch, hgathering, -⟩ := resetKeepsEveryLaw
  exact ⟨fun _ => hgain, fun _ => hbase, fun _ => hwatch, fun _ => hquality, fun _ => hstore, fun _ => hgathering⟩

theorem audio_softReset (s : State) : AudioKept s (softReset s) := by
  unfold softReset
  split
  · exact audio_resetPart s
  · exact .refl s

/-! ### Pairing (R35 to R49) -/

theorem audio_failPairing (reason : FailReason) (s : State) : AudioKept s (failPairing reason s) := by
  rw [failPairing_spec reason s]
  exact .untouched rfl

theorem audio_pairStart (body : List Byte) (s : State) : AudioKept s (pairStart body s).state := by
  unfold pairStart
  split
  · split
    · split <;> exact .untouched rfl
    · exact .refl s
  · exact .refl s

theorem audio_pairPick (body : List Byte) (s : State) : AudioKept s (pairPick body s).state := by
  unfold pairPick
  split
  · split
    · split
      · exact .refl s
      · split
        · exact .refl s
        · split
          · exact .refl s
          · split <;> exact .untouched rfl
    · exact .refl s
  · exact .refl s

theorem audio_pairConfirm (body : List Byte) (s : State) : AudioKept s (pairConfirm body s).state := by
  unfold pairConfirm
  split
  · split
    · split <;> exact .untouched rfl
    · exact .refl s
  · exact .refl s

theorem audio_pairCancel (body : List Byte) (s : State) : AudioKept s (pairCancel body s).state := by
  unfold pairCancel
  split
  · split
    · exact .refl s
    · unfold cancelPairing
      split
      · split
        · exact audio_failPairing .cancelled s
        · exact .untouched rfl
      · exact .refl s
  · exact .refl s

theorem audio_ask (h : AirHeader) (declared : RawDeclared) (quality : Byte) (s : State) :
    AudioKept s (ask h declared quality s) := by
  unfold ask
  split
  · split
    · unfold raiseCandidate
      split <;> exact .untouched rfl
    · exact .refl s
  · exact .refl s

theorem audio_accept (h : AirHeader) (earValue : PublicValue) (s : State) : AudioKept s (accept h earValue s) := by
  unfold accept
  split <;> exact .untouched rfl

theorem audio_confirm (h : AirHeader) (s : State) : AudioKept s (confirm h s) := by
  unfold confirm
  split <;> exact .untouched rfl

theorem audio_reject (h : AirHeader) (s : State) : AudioKept s (reject h s) := by
  unfold reject
  split
  · exact audio_failPairing .rejectedByEar s
  · exact .refl s

theorem audio_bound (h : AirHeader) (s : State) : AudioKept s (bound h s) := by
  unfold bound
  split
  · split
    · unfold settleBind
      split <;> exact .untouched rfl
    · exact .refl s
  · exact .refl s

theorem audio_candidateExpiry (s : State) : AudioKept s (candidateExpiry s) := by
  unfold candidateExpiry
  split <;> exact .untouched rfl

theorem audio_windowEnd (s : State) : AudioKept s (windowEnd s) := by
  unfold windowEnd
  split
  · exact audio_failPairing .windowEnd s
  · exact .refl s

theorem audio_offerTimeout (s : State) : AudioKept s (offerTimeout s) := by
  unfold offerTimeout
  split
  · split
    · exact .untouched rfl
    · exact AudioKept.trans (t := pairEvent 4 FailReason.noAnswer.code (s.setPair s.pair.failPick)) (.untouched rfl)
        (audio_windowEnd _)
  · exact .refl s

theorem audio_keyComputationDone (s : State) : AudioKept s (keyComputationDone s) := by
  unfold keyComputationDone
  split
  · split <;> exact .untouched rfl
  · exact .refl s

theorem audio_compareTimeout (s : State) : AudioKept s (compareTimeout s) := by
  unfold compareTimeout
  split <;> exact .untouched rfl

theorem audio_passToOffset (offset : Tick) (s : State) : AudioKept s (passToOffset offset s) :=
  .untouched rfl

theorem audio_turnFirstHalfEnd (s : State) : AudioKept s (turnFirstHalfEnd s) := by
  have hpassed := audio_passToOffset 2000 s
  unfold turnFirstHalfEnd
  split
  · unfold endAbandon
    split
    · split
      · exact hpassed.trans (audio_failPairing _ _)
      · exact hpassed
    · exact hpassed
  · exact .refl s

theorem audio_bindNoAnswer (s : State) : AudioKept s (bindNoAnswer s) := by
  unfold bindNoAnswer
  split
  · exact (audio_passToOffset 4000 s).trans (audio_failPairing _ _)
  · exact .refl s

/-! ### The slots of the interval (R54, R70 to R75) -/

theorem audio_markRetry (k : SlotId) (s : State) : AudioKept s (markRetry k s) := by
  unfold markRetry
  split <;> exact .untouched rfl

theorem audio_grantSpare (s : State) : AudioKept s (grantSpare s) := by
  unfold grantSpare
  split <;> exact .untouched rfl

theorem audio_denyRetry (code : Byte) (k : SlotId) (s : State) : AudioKept s (denyRetry code k s) := by
  unfold denyRetry
  split
  · have hcleared : AudioKept s (s.setSlot k { s.slots[k] with retryCandidate := false }) := .untouched rfl
    exact (hcleared.trans (audio_setQueue (k := k) (q := { s.queues[k] with
      stats := { s.queues[k].stats with retryDenials := bump s.queues[k].stats.retryDenials } }) id)).trans (audio_raiseAt ..)
  · exact .refl s

/-- A block sent leaves the store (R75). -/
theorem audio_sendDown (k : SlotId) (s : State) : AudioKept s (sendDown k s) := by
  unfold sendDown
  split
  · next b rest hstore =>
    have htaken : s.stores[k].length ≤ 2 → rest.length ≤ 2 := fun h => by
      rw [hstore, List.length_cons] at h
      omega
    exact (audio_setStore htaken).trans (.untouched rfl)
  · exact .untouched rfl
  · exact .untouched rfl

theorem audio_startDownlink (k : SlotId) (s : State) : AudioKept s (startDownlink k s) := by
  unfold startDownlink
  split
  · exact .refl s
  · exact .untouched rfl
  · exact AudioKept.trans (t := setUse (.downlink k) s) (.untouched rfl) (audio_sendDown k _)
  · exact .untouched rfl

theorem audio_startUplink (k : SlotId) (s : State) : AudioKept s (startUplink k s) := by
  unfold startUplink
  split <;> exact .untouched rfl

theorem audio_startTurn (s : State) : AudioKept s (startTurn s) := by
  unfold startTurn sendTurnFrame
  split
  · split
    case h_3 => split <;> exact .untouched rfl
    all_goals exact .untouched rfl
  · exact .untouched rfl

theorem audio_startSlotNine (s : State) : AudioKept s (startSlotNine s) := by
  unfold startSlotNine
  split
  · exact (audio_grantSpare s).trans (forEachSlot_of_trans .trans (audio_denyRetry 1) _)
  · exact (audio_startTurn s).trans (forEachSlot_of_trans .trans (audio_denyRetry 2) _)

theorem audio_runSlot (n : Fin 10) (s : State) : AudioKept s (runSlot n s) := by
  match n with
  | 0 => exact audio_startDownlink 0 s
  | 1 => exact audio_startUplink 0 s
  | 2 => exact (audio_markRetry 0 s).trans (audio_startDownlink 1 _)
  | 3 => exact audio_startUplink 1 s
  | 4 => exact (audio_markRetry 1 s).trans (audio_startDownlink 2 _)
  | 5 => exact audio_startUplink 2 s
  | 6 => exact (audio_markRetry 2 s).trans (audio_startDownlink 3 _)
  | 7 => exact audio_startUplink 3 s
  | 8 => exact (audio_markRetry 3 s).trans (audio_grantSpare _)
  | 9 => exact audio_startSlotNine s

/-! ### The interval's end (R53) -/

theorem audio_finishSlot (k : SlotId) (s : State) : AudioKept s (finishSlot k s) :=
  (audio_leaveUnanswered k s).trans ((audio_joinNoAnswer k _).trans ((audio_linkLoss k _).trans
    ((audio_driftWindowClose k _).trans (audio_fillTimeout k _))))

theorem audio_finishInterval (s : State) : AudioKept s (finishInterval s) :=
  (forEachSlot_of_trans .trans audio_finishSlot s).trans ((audio_offerTimeout _).trans ((audio_compareTimeout _).trans
    ((audio_keyComputationDone _).trans ((audio_windowEnd _).trans (audio_candidateExpiry _)))))

/-- The counts of an interval's end leave the quality windows (R90, R99). -/
theorem audio_countInterval (s : State) : AudioKept s (countInterval s) :=
  ⟨id, id, id, forall_map (P := fun x : RxQueue => x.quality.length = 16) fun q h => by
    unfold RxQueue.endInterval
    split <;> exact h, id, id⟩

theorem audio_nextInterval (s : State) : AudioKept s (nextInterval s) :=
  .untouched rfl

/-- What is left of an interval's work, where it is done at all. -/
theorem audio_finishInterval_if (p : Prop) [Decidable p] (s : State) : AudioKept s (if p then finishInterval s else s) := by
  split
  · exact audio_finishInterval s
  · exact .refl s

theorem audio_airIntervalEnd (s : State) : AudioKept s (airIntervalEnd s) :=
  (((audio_finishInterval_if _ s).trans (audio_turnFirstHalfEnd _)).trans (audio_bindNoAnswer _)).trans
    ((audio_countInterval _).trans (audio_nextInterval _))

theorem audio_beginSlot (n : Fin 10) (s : State) : AudioKept s (beginSlot n s) :=
  .untouched rfl

theorem audio_slotStart (s : State) : AudioKept s (slotStart s) := by
  unfold slotStart
  split
  · exact ((audio_finishInterval_if _ s).trans (audio_beginSlot _ _)).trans (audio_runSlot _ _)
  · exact .refl s

/-! ### Every command, and every step -/

/-- Every command keeps the laws of the audio path. -/
theorem audio_exec (c : Instr) (s : State) : ∃ t : State, exec c s = .next t ∧ AudioKept s t := by
  have hpassed : ∀ elapsed : Tick, AudioKept s (passTime elapsed s) := fun _ => .untouched rfl
  cases c with
  | powerOnReset => exact ⟨_, rfl, audio_resetPart s⟩
  | hello tag body => exact ⟨_, rfl, audio_takeRequest _ tag body (audio_hello body) s⟩
  | resetSoft tag body => exact ⟨_, rfl, audio_takeRequest _ tag body (audio_resetSoft body) s⟩
  | softResetPerformed => exact ⟨_, rfl, audio_softReset s⟩
  | callOpen tag body => exact ⟨_, rfl, audio_takeRequest _ tag body (audio_callOpen body) s⟩
  | callHold tag body => exact ⟨_, rfl, audio_takeRequest _ tag body (audio_callHold body) s⟩
  | callResume tag body => exact ⟨_, rfl, audio_takeRequest _ tag body (audio_callResume body) s⟩
  | callClose tag body => exact ⟨_, rfl, audio_takeRequest _ tag body (audio_callClose body) s⟩
  | callGet tag body => exact ⟨_, rfl, audio_takeRequest _ tag body (audio_callGet body) s⟩
  | rosterPut tag body => exact ⟨_, rfl, audio_takeRequest _ tag body (audio_rosterPut body) s⟩
  | rosterGet tag body => exact ⟨_, rfl, audio_takeRequest _ tag body (audio_rosterGet body) s⟩
  | rosterDrop tag body => exact ⟨_, rfl, audio_takeRequest _ tag body (audio_rosterDrop body) s⟩
  | pairStart tag body => exact ⟨_, rfl, audio_takeRequest _ tag body (audio_pairStart body) s⟩
  | pairPick tag body => exact ⟨_, rfl, audio_takeRequest _ tag body (audio_pairPick body) s⟩
  | pairConfirm tag body => exact ⟨_, rfl, audio_takeRequest _ tag body (audio_pairConfirm body) s⟩
  | pairCancel tag body => exact ⟨_, rfl, audio_takeRequest _ tag body (audio_pairCancel body) s⟩
  | earJoin tag body => exact ⟨_, rfl, audio_takeRequest _ tag body (audio_earJoin body) s⟩
  | earLeave tag body => exact ⟨_, rfl, audio_takeRequest _ tag body (audio_earLeave body) s⟩
  | queueSet tag body => exact ⟨_, rfl, audio_takeRequest _ tag body (audio_queueSet body) s⟩
  | mixSet tag body => exact ⟨_, rfl, audio_takeRequest _ tag body (audio_mixSet body) s⟩
  | mixCommit tag body => exact ⟨_, rfl, audio_takeRequest _ tag body (audio_mixCommit body) s⟩
  | mixGet tag body => exact ⟨_, rfl, audio_takeRequest _ tag body (audio_mixGet body) s⟩
  | voiceSet tag body => exact ⟨_, rfl, audio_takeRequest _ tag body (audio_voiceSet body) s⟩
  | watchSet tag body => exact ⟨_, rfl, audio_takeRequest _ tag body (audio_watchSet body) s⟩
  | sinkSet tag body => exact ⟨_, rfl, audio_takeRequest _ tag body (audio_sinkSet body) s⟩
  | statsGet tag body => exact ⟨_, rfl, audio_takeRequest _ tag body (audio_statsGet body) s⟩
  | noticeRoute tag body => exact ⟨_, rfl, audio_takeRequest _ tag body (audio_noticeRoute body) s⟩
  | noticeMask tag body => exact ⟨_, rfl, audio_takeRequest _ tag body (audio_noticeMask body) s⟩
  | noticeAck tag body => exact ⟨_, rfl, audio_takeRequest _ tag body (audio_noticeAck body) s⟩
  | noticePoll tag body => exact ⟨_, rfl, audio_takeRequest _ tag body (audio_noticePoll body) s⟩
  | unknownKindRequest kind tag body => exact ⟨_, rfl, audio_unknownKindRequest kind tag body s⟩
  | controlPortByte elapsed byte => exact ⟨_, rfl, (hpassed elapsed).trans (audio_receiveByte byte _)⟩
  | byteTimeout elapsed => exact ⟨_, rfl, (hpassed elapsed).trans (audio_byteTimeout _)⟩
  | frameToRequest => exact ⟨_, rfl, .untouched rfl⟩
  | transmitStart hostReady => exact ⟨_, rfl, audio_transmitStart hostReady s⟩
  | transmitDone => exact ⟨_, rfl, audio_transmitDone s⟩
  | airIntervalEnd => exact ⟨_, rfl, audio_airIntervalEnd s⟩
  | slotStart => exact ⟨_, rfl, audio_slotStart s⟩
  | ask h declared quality => exact ⟨_, rfl, audio_ask h declared quality s⟩
  | accept h earValue => exact ⟨_, rfl, audio_accept h earValue s⟩
  | confirm h => exact ⟨_, rfl, audio_confirm h s⟩
  | reject h => exact ⟨_, rfl, audio_reject h s⟩
  | bound h => exact ⟨_, rfl, audio_bound h s⟩
  | joinAck h accepts proof => exact ⟨_, rfl, audio_joinAck h accepts proof s⟩
  | leaveAck h => exact ⟨_, rfl, audio_leaveAck h s⟩
  | up h frame => exact ⟨_, rfl, audio_takeUp h frame s⟩
  | pairTurnFirstHalfEnd => exact ⟨_, rfl, audio_turnFirstHalfEnd s⟩
  | bindNoAnswer => exact ⟨_, rfl, audio_bindNoAnswer s⟩
  | candidateExpiry => exact ⟨_, rfl, audio_candidateExpiry s⟩
  | windowEnd => exact ⟨_, rfl, audio_windowEnd s⟩
  | offerTimeout => exact ⟨_, rfl, audio_offerTimeout s⟩
  | keyComputationDone => exact ⟨_, rfl, audio_keyComputationDone s⟩
  | compareTimeout => exact ⟨_, rfl, audio_compareTimeout s⟩
  | joinNoAnswer k => exact ⟨_, rfl, audio_joinNoAnswer k s⟩
  | leaveUnanswered k => exact ⟨_, rfl, audio_leaveUnanswered k s⟩
  | linkLoss k => exact ⟨_, rfl, audio_linkLoss k s⟩
  | fillTimeout k => exact ⟨_, rfl, audio_fillTimeout k s⟩
  | driftWindowClose k => exact ⟨_, rfl, audio_driftWindowClose k s⟩
  | sync elapsed first second => exact ⟨_, rfl, (hpassed elapsed).trans (audio_takeSync first second _)⟩
  | syncLoss elapsed => exact ⟨_, rfl, (hpassed elapsed).trans (audio_syncLoss _)⟩
  | freeRunningBlockEvent elapsed => exact ⟨_, rfl, (hpassed elapsed).trans (audio_freeRunningBlockEvent _)⟩
  | lockTimeout elapsed => exact ⟨_, rfl, (hpassed elapsed).trans (audio_lockTimeout _)⟩

/-- A command that goes on has kept the laws of the audio path. -/
theorem audio_of_exec {c : Instr} {s t : State} (h : exec c s = .next t) : AudioKept s t := by
  obtain ⟨u, hu, hkept⟩ := audio_exec c s
  cases hu.symm.trans h
  exact hkept

/-- Every step keeps the laws of the audio path. -/
theorem audio_of_step {s t : State} (h : step s = .next t) : AudioKept s t := by
  unfold step at h
  split at h
  · next c rest hp => exact AudioKept.trans (t := s.withQueue rest) (.untouched rfl) (audio_of_exec h)
  · unfold idleStep at h
    split at h
    · exact audio_of_exec h
    · cases h
      exact .untouched rfl

end Sys2Proof.Machine

open Sys2Proof Sys2Proof.Machine

/-- Settles O58: every command is made of operations each of which keeps the six laws. -/
theorem stepsKeepAudioLaws : Obligations.StepsKeepAudioLaws := fun _ _ h =>
  have hkept := audio_of_step h
  ⟨hkept.gains, hkept.baseSteps, hkept.watches, hkept.quality, hkept.stores, hkept.gathering⟩
end

section
/-! The block of a sink: its samples in the words of the statements, and the clamps it counts (R127 to R133). -/

namespace Sys2Proof.Machine

open Sys2Proof

/-! ### The samples of a mixed block (R128) -/

/-- A sample before its clamp is the accumulator divided by 4,096 with round half up (R128, step 2). -/
theorem mixedSample_eq (terms : List Term) (i : Nat) :
    mixedSample terms i = (gainedSum (terms.map fun t => (t.samples, t.gain)) i + 2048) / 4096 := by
  have hsum : accumulate terms i = gainedSum (terms.map fun t => (t.samples, t.gain)) i := by
    simp only [accumulate, gainedSum, List.map_map, Function.comp_def]
  simp only [mixedSample, roundHalfUp, hsum]
  omega

/-- A clamped number is a sample's value (R128, step 3). -/
theorem clampSample_toInt (x : Int) : (clampSample x).toInt = max (-32768) (min 32767 x) := by
  refine BitVec.toInt_ofInt_eq_self (by decide) ?_ ?_ <;> simp only [clampInt] <;> omega

theorem mixedBlock_length (n : Nat) (terms : List Term) : (mixedBlock n terms).length = n :=
  (List.length_map _).trans List.length_range

theorem mixedBlock_getD {n i : Nat} (terms : List Term) (hi : i < n) :
    (mixedBlock n terms).getD i 0 = clampSample (mixedSample terms i) := by
  simp [mixedBlock, hi]

/-! ### Muted, mixed and held (R130, R131, R133) -/

theorem sinkBlock_of_muted {n : Nat} {j : SinkId} {s : State} (h : s.mix.active.mutes[j] = true) (terms : List Term) :
    sinkBlock n j terms s = List.replicate n 0 := if_pos h

theorem sinkBlock_of_unmuted {n : Nat} {j : SinkId} {s : State} (h : s.mix.active.mutes[j] = false) (terms : List Term) :
    sinkBlock n j terms s = mixedBlock n terms := if_neg (ne_true_of_eq_false h)

theorem accountClamps_of_muted {n : Nat} {j : SinkId} {s : State} (h : s.mix.active.mutes[j] = true) (terms : List Term) :
    accountClamps n j terms s = s := if_pos h

theorem accountClamps_of_unmuted {n : Nat} {j : SinkId} {s : State} (h : s.mix.active.mutes[j] = false) (terms : List Term) :
    accountClamps n j terms s = noteClamps j (clampedIn n terms) s := if_neg (ne_true_of_eq_false h)

theorem noteClamps_zero (j : SinkId) (s : State) : noteClamps j 0 s = s := rfl

/-- Clamps counted in a record that saturates, and raised once where the sink reports them (R130). -/
theorem noteClamps_of_pos {count : Nat} (h : count ≠ 0) (j : SinkId) (s : State) (u : State)
    (hu : u = { s with mix := { s.mix with clampCount := s.mix.clampCount.set j (min max32 (s.mix.clampCount[j] + count)) } }) :
    noteClamps j count s = if s.mix.clampReport[j] then raiseAt Source.sinkClamp 1 j u else u := by
  subst hu
  exact if_neg h

/-- UP is held in HELD, and in LOST out of HELD (R133). -/
theorem uplinkHeld_iff (c : CallRecord) : uplinkHeld c = true ↔ c.state = .held ∨ (c.state = .lost ∧ c.resumeTo = .held) := by
  unfold uplinkHeld
  cases c.state <;> simp

theorem upBlock_of_held {n : Nat} {s : State} (h : s.call.state = .held ∨ (s.call.state = .lost ∧ s.call.resumeTo = .held))
    (src : Sources) : upBlock n src s = List.replicate n 0 := if_pos ((uplinkHeld_iff _).2 h)

theorem upBlock_of_not_held {n : Nat} {s : State} (hheld : s.call.state ≠ .held)
    (hlost : s.call.state = .lost → s.call.resumeTo = .live) (src : Sources) :
    upBlock n src s = sinkBlock n 0 (upTerms src s.mix.active) s := by
  refine if_neg fun h => ?_
  rcases (uplinkHeld_iff _).1 h with h | ⟨h, hresume⟩
  · exact hheld h
  · exact ResumeTo.noConfusion ((hlost h).symm.trans hresume)

end Sys2Proof.Machine

open Sys2Proof Sys2Proof.Machine

/-- Settles O46: a muted sink by its own branch; an unmuted one sample by sample, with the clamps counted by the samples' values; the
sources by their presence. -/
theorem sinksAreMixed : Obligations.SinksAreMixed := by
  intro n j terms s sums hsums
  subst hsums
  refine ⟨fun hmuted => ⟨sinkBlock_of_muted hmuted terms, accountClamps_of_muted hmuted terms⟩, fun hunmuted => ?_, fun src =>
    ⟨fun hheld => upBlock_of_held hheld src, fun hheld hlost => upBlock_of_not_held hheld hlost src, fun k bank =>
      ⟨upTerms_map src bank, earTerms_map src k bank⟩⟩⟩
  rw [sinkBlock_of_unmuted hunmuted, accountClamps_of_unmuted hunmuted]
  refine ⟨mixedBlock_length n terms, fun i hi => ?_, fun clamped hclamped => ⟨_, rfl, fun hzero => ?_, fun hpos => ?_⟩⟩
  · rw [mixedBlock_getD terms hi, clampSample_toInt, mixedSample_eq]
  · rw [clampedIn_eq, ← hclamped, hzero, noteClamps_zero]
  · rw [clampedIn_eq, ← hclamped]
    exact noteClamps_of_pos hpos j s _ rfl
end

section
/-! MIX_COMMIT, MIX_GET and SINK_SET: when a commit is copied at once, and the bytes of a bank (R124, R126, R134). -/

namespace Sys2Proof.Machine

open Sys2Proof

/-! ### MIX_COMMIT (R124) -/

theorem commitsAtOnce_iff (c : CallState) : commitsAtOnce c = true ↔ c = .idle ∨ c = .opening := by
  cases c <;> simp [commitsAtOnce]

theorem mixCommit_of_atOnce {s : State} (h : s.call.state = .idle ∨ s.call.state = .opening) :
    mixCommit [] s = answerOk [] (commitAtOnce s) := if_pos ((commitsAtOnce_iff _).2 h)

theorem mixCommit_of_pending {s : State} (hidle : s.call.state ≠ .idle) (hopening : s.call.state ≠ .opening) :
    mixCommit [] s = answerOk [] { s with mix := { s.mix with commitPending := true } } :=
  if_neg fun h => ((commitsAtOnce_iff _).1 h).elim hidle hopening

/-! ### MIX_GET (R126) -/

/-- The mute set of five mutes has each as a bit, UP's the lowest. -/
theorem ofNat_sum_of_mutes (m0 m1 m2 m3 m4 : Bool) :
    BitVec.ofNat 8 [if m0 then 1 else 0, if m1 then 2 else 0, if m2 then 4 else 0, if m3 then 8 else 0, if m4 then 16 else 0].sum
      = (BitVec.ofBool m4 ++ BitVec.ofBool m3 ++ BitVec.ofBool m2 ++ BitVec.ofBool m1 ++ BitVec.ofBool m0).zeroExtend 8 := by
  revert m0 m1 m2 m3 m4
  decide

theorem muteSet_eq (b : Bank) :
    b.muteSet = (BitVec.ofBool b.mutes[4] ++ BitVec.ofBool b.mutes[3] ++ BitVec.ofBool b.mutes[2] ++ BitVec.ofBool b.mutes[1]
      ++ BitVec.ofBool b.mutes[0]).zeroExtend 8 :=
  ofNat_sum_of_mutes ..

/-- The elements of a vector of four, in order. -/
theorem toList_of_four {α : Type} (v : Vector α 4) : v.toList = [v[0], v[1], v[2], v[3]] := by
  refine List.ext_getElem (by simp) fun i hi hi' => ?_
  have hlt : i < 4 := hi'
  interval_cases i <;> simp

theorem gains_eq (b : Bank) :
    b.gains = [b.up.v0, b.up.v1, b.up.down]
      ++ ([b.ear[0], b.ear[1], b.ear[2], b.ear[3]].flatMap fun r => [r.v0, r.v1, r.down, r.own]) :=
  congrArg (fun rows : List EarRow => [b.up.v0, b.up.v1, b.up.down] ++ rows.flatMap fun r => [r.v0, r.v1, r.down, r.own])
    (toList_of_four b.ear)

/-- The bank that the byte of MIX_GET names (R126). -/
theorem mixGet_of_lt {x : Byte} (h : x.toNat < 2) (s : State) :
    mixGet [x] s = answerOk (mixBytes (if x = 0 then s.mix.active else s.mix.shadow) s.mix) s := by
  have hx : x = 0 ∨ x = 1 := by bv_omega
  rcases hx with rfl | rfl <;> rfl

theorem mixGet_of_le {x : Byte} (h : 2 ≤ x.toNat) (s : State) : mixGet [x] s = refuse .badArg s := by
  simp only [mixGet]
  split <;> [omega; omega; rfl]

/-! ### SINK_SET (R134) -/

theorem sinkSet_of_le {x y : Byte} (h : 5 ≤ x.toNat ∨ 2 ≤ y.toNat) (s : State) : sinkSet [x, y] s = refuse .badArg s := by
  simp only [sinkSet]
  split
  · next j on hj hon =>
    rcases h with h | h
    · cases (indexOfByte_of_le h).symm.trans hj
    · cases (switchOfByte_of_le h).symm.trans hon
  · rfl

theorem sinkSet_of_switch (j : SinkId) (on : Bool) (s : State) :
    sinkSet [BitVec.ofNat 8 j.val, switchByte on] s
      = answerOk [] { s with mix := { s.mix with clampReport := s.mix.clampReport.set j on } } := by
  simp only [sinkSet, indexOfByte_ofNat 5 j (by decide), switchOfByte_switchByte]

end Sys2Proof.Machine

open Sys2Proof Sys2Proof.Machine

/-- Settles O45: each request by what its bytes and the call state select. -/
theorem commitGetAndSinkSet : Obligations.CommitGetAndSinkSet := by
  refine fun tag x y s => ⟨fun ht => ⟨fun h => ?_, fun hidle hopening => ?_⟩, fun ht => ⟨fun h => ?_, fun h bank hbank => ?_⟩,
    fun ht => ⟨fun h => ?_, fun j on hx hy => ?_⟩⟩
  · exact congrArg Host.Outcome.next (takeRequest_answered ht (mixCommit_of_atOnce (s := dropRequest s) h))
  · exact congrArg Host.Outcome.next
      (takeRequest_answered (t := { s with mix := { s.mix with commitPending := true } }) ht
        (mixCommit_of_pending (s := dropRequest s) hidle hopening))
  · exact congrArg Host.Outcome.next (takeRequest_refused ht (mixGet_of_le h _))
  · have hreply := takeRequest_answered (t := s) ht (mixGet_of_lt h (dropRequest s))
    subst hbank
    refine (congrArg Host.Outcome.next hreply).trans ?_
    rw [mixBytes, gains_eq, muteSet_eq]
    rfl
  · exact congrArg Host.Outcome.next (takeRequest_refused ht (sinkSet_of_le h _))
  · subst hx hy
    exact congrArg Host.Outcome.next (takeRequest_answered ht (sinkSet_of_switch j on (dropRequest s)))
end

section
/-! The items of MIX_SET: their four bytes, the bodies that hold them, and what a bank is once they have been written (R122, R123,
R173). -/

namespace Sys2Proof.Machine

open Sys2Proof

/-! ### The bytes of an item (R122, R173) -/

/-- Two bytes hold a 16-bit number. -/
theorem number2_of_lt {g : Nat} (h : g < 65536) : number2 (BitVec.ofNat 8 g) (BitVec.ofNat 8 (g / 256)) = g := by
  simp only [number2, BitVec.toNat_ofNat]
  omega

theorem mixSourceOfByte_number (src : MixSource) : mixSourceOfByte (mixSourceNumber src) = some src := by
  cases src <;> rfl

theorem mixSourceNumber_ne_mute (src : MixSource) : (mixSourceNumber src).toNat ≠ 255 := by
  cases src <;> decide

theorem mixSourceOfByte_of_le {b : Byte} (h : 4 ≤ b.toNat) : mixSourceOfByte b = none := by
  unfold mixSourceOfByte
  split <;> [omega; omega; omega; omega; rfl]

/-- An earbud's sink comes after UP: its byte is the earbud's index and 1. -/
theorem indexOfByte_earSink (k : SlotId) : indexOfByte 5 (BitVec.ofNat 8 (k.val + 1)) = some (earSink k) :=
  indexOfByte_ofNat 5 (earSink k) (by decide)

theorem indexOfByte_earSink_sub (k : SlotId) : indexOfByte 4 (BitVec.ofNat 8 (k.val + 1) - 1) = some k := by
  have hk : BitVec.ofNat 8 (k.val + 1) - 1 = BitVec.ofNat 8 k.val := by bv_omega
  rw [hk]
  exact indexOfByte_ofNat 4 k (by decide)

theorem mixItemOfBytes_upCell {src : MixSource} (hsrc : src ≠ .own) {g : Nat} (hg : g < 65536) :
    mixItemOfBytes 0 (mixSourceNumber src) (BitVec.ofNat 8 g) (BitVec.ofNat 8 (g / 256)) = some (.upCell src g) := by
  have hup : indexOfByte 5 0 = some 0 := rfl
  have hear : indexOfByte 4 (0 - 1) = none := rfl
  simp only [mixItemOfBytes, hup, hear, if_neg (mixSourceNumber_ne_mute src), mixSourceOfByte_number, if_neg hsrc, number2_of_lt hg]

theorem mixItemOfBytes_earCell (k : SlotId) (src : MixSource) {g : Nat} (hg : g < 65536) :
    mixItemOfBytes (BitVec.ofNat 8 (k.val + 1)) (mixSourceNumber src) (BitVec.ofNat 8 g) (BitVec.ofNat 8 (g / 256))
      = some (.earCell k src g) := by
  simp only [mixItemOfBytes, indexOfByte_earSink, indexOfByte_earSink_sub, if_neg (mixSourceNumber_ne_mute src),
    mixSourceOfByte_number, number2_of_lt hg]

theorem mixItemOfBytes_mute (j : SinkId) (on : Bool) :
    mixItemOfBytes (BitVec.ofNat 8 j.val) 255 (if on then 1 else 0) 0 = some (.mute j on) := by
  unfold mixItemOfBytes
  rw [indexOfByte_ofNat 5 j (by decide)]
  cases on <;> rfl

/-- Four bytes that name a sink, a source, a cell or a mute value that does not exist are no item (R122). -/
theorem mixItemOfBytes_eq_none {sink source low high : Byte}
    (h : 5 ≤ sink.toNat ∨ (4 ≤ source.toNat ∧ source ≠ 255) ∨ (sink = 0 ∧ source = 3)
      ∨ (source = 255 ∧ (2 ≤ low.toNat ∨ high ≠ 0))) :
    mixItemOfBytes sink source low high = none := by
  unfold mixItemOfBytes
  split
  · rfl
  next j hsink =>
  rcases h with h | ⟨hle, hmute⟩ | ⟨rfl, rfl⟩ | ⟨rfl, hvalue⟩
  · cases (indexOfByte_of_le h).symm.trans hsink
  · have hnotMute : source.toNat ≠ 255 := fun e => hmute (BitVec.eq_of_toNat_eq e)
    rw [if_neg hnotMute, mixSourceOfByte_of_le hle]
  · rfl
  · have hlarge : 2 ≤ number2 low high := by
      unfold number2
      bv_omega
    rw [if_pos (show (255 : Byte).toNat = 255 from rfl)]
    split <;> [omega; omega; rfl]

/-! ### The items of a body (R173) -/

theorem mixItemsOfBody_item (item : MixItem) (hfits : itemFits item) (rest : List Byte) :
    mixItemsOfBody (itemBytes item ++ rest) = (mixItemsOfBody rest).map (item :: ·) := by
  have hbody : ∀ {sink source low high : Byte}, mixItemOfBytes sink source low high = some item →
      mixItemsOfBody (sink :: source :: low :: high :: rest) = (mixItemsOfBody rest).map (item :: ·) := by
    intro sink source low high hitem
    rw [mixItemsOfBody, hitem]
    cases mixItemsOfBody rest <;> rfl
  cases item with
  | upCell src g => exact hbody (mixItemOfBytes_upCell hfits.1 hfits.2)
  | earCell k src g => exact hbody (mixItemOfBytes_earCell k src hfits)
  | mute j on => exact hbody (mixItemOfBytes_mute j on)

/-- The bytes of items stand for the items. -/
theorem mixItemsOfBody_flatMap {items : List MixItem} (hfit : ∀ item ∈ items, itemFits item) :
    mixItemsOfBody (items.flatMap itemBytes) = some items := by
  induction items with
  | nil => rfl
  | cons item rest ih =>
    obtain ⟨hitem, hrest⟩ := List.forall_mem_cons.1 hfit
    rw [List.flatMap_cons, mixItemsOfBody_item item hitem, ih hrest]
    rfl

theorem itemBytes_length (item : MixItem) : (itemBytes item).length = 4 := by
  cases item <;> rfl

theorem flatMap_itemBytes_length (items : List MixItem) : (items.flatMap itemBytes).length = 4 * items.length := by
  induction items with
  | nil => rfl
  | cons item rest ih =>
    rw [List.flatMap_cons, List.length_append, itemBytes_length, ih, List.length_cons]
    omega

/-- One group of four bytes that is no item leaves the body without items, wherever it stands. -/
theorem mixItemsOfBody_eq_none {sink source low high : Byte} (hbad : mixItemOfBytes sink source low high = none)
    (after : List Byte) : ∀ before : List Byte, before.length % 4 = 0 →
      mixItemsOfBody (before ++ [sink, source, low, high] ++ after) = none
  | [], _ => by
    show mixItemsOfBody (sink :: source :: low :: high :: after) = none
    rw [mixItemsOfBody, hbad]
  | b0 :: b1 :: b2 :: b3 :: rest, hlength => by
    have hrest : rest.length % 4 = 0 := by
      simp only [List.length_cons] at hlength
      omega
    show mixItemsOfBody (b0 :: b1 :: b2 :: b3 :: (rest ++ [sink, source, low, high] ++ after)) = none
    rw [mixItemsOfBody, mixItemsOfBody_eq_none hbad after rest hrest]
    cases mixItemOfBytes b0 b1 b2 b3 <;> rfl

/-! ### A bank written (R123) -/

/-- The gain of a source in a row; UP has no cell for OWN. -/
def UpRow.gain (r : UpRow) (src : MixSource) : Nat :=
  match src with
  | .v0 => r.v0
  | .v1 => r.v1
  | .down => r.down
  | .own => 0

def EarRow.gain (r : EarRow) (src : MixSource) : Nat :=
  match src with
  | .v0 => r.v0
  | .v1 => r.v1
  | .down => r.down
  | .own => r.own

/-- The gain that an item gives the cell of `src` in UP, if it does. -/
def MixItem.upGain (src : MixSource) (item : MixItem) : Option Nat :=
  match item with
  | .upCell x g => if x = src then some g else none
  | _ => none

/-- The gain that an item gives the cell of `src` in the sink of earbud `k`, if it does. -/
def MixItem.earGain (k : SlotId) (src : MixSource) (item : MixItem) : Option Nat :=
  match item with
  | .earCell j x g => if j = k ∧ x = src then some g else none
  | _ => none

/-- The mute that an item gives sink `j`, if it does. -/
def MixItem.muteOf (j : SinkId) (item : MixItem) : Option Bool :=
  match item with
  | .mute x on => if x = j then some on else none
  | _ => none

/-- A row with the gain of a source replaced; UP has no cell for OWN. -/
def UpRow.setGain (r : UpRow) (src : MixSource) (g : Nat) : UpRow :=
  match src with
  | .v0 => { r with v0 := g }
  | .v1 => { r with v1 := g }
  | .down => { r with down := g }
  | .own => r

def EarRow.setGain (r : EarRow) (src : MixSource) (g : Nat) : EarRow :=
  match src with
  | .v0 => { r with v0 := g }
  | .v1 => { r with v1 := g }
  | .down => { r with down := g }
  | .own => { r with own := g }

theorem UpRow.gain_setGain (r : UpRow) {src : MixSource} (hsrc : src ≠ .own) (x : MixSource) (g : Nat) :
    (r.setGain x g).gain src = if x = src then g else r.gain src := by
  cases src with
  | own => exact absurd rfl hsrc
  | v0 => cases x <;> rfl
  | v1 => cases x <;> rfl
  | down => cases x <;> rfl

theorem EarRow.gain_setGain (r : EarRow) (src x : MixSource) (g : Nat) :
    (r.setGain x g).gain src = if x = src then g else r.gain src := by
  cases src <;> cases x <;> rfl

theorem write_upCell (src : MixSource) (g : Nat) (b : Bank) :
    b.write (.upCell src g) = { b with up := b.up.setGain src (clampNat 0 16384 g) } := by
  cases src <;> rfl

theorem write_earCell (k : SlotId) (src : MixSource) (g : Nat) (b : Bank) :
    b.write (.earCell k src g) = { b with ear := b.ear.set k (b.ear[k].setGain src (clampNat 0 16384 g)) } := by
  cases src <;> rfl

theorem clampNat_zero (high g : Nat) : clampNat 0 high g = min high g := by
  rw [clampNat, min_comm, Nat.zero_max, min_comm]

theorem write_up_gain {src : MixSource} (hsrc : src ≠ .own) (item : MixItem) (b : Bank) :
    (b.write item).up.gain src = ((item.upGain src).map (min 16384)).getD (b.up.gain src) := by
  cases item with
  | upCell x g =>
    rw [write_upCell, UpRow.gain_setGain _ hsrc, clampNat_zero]
    unfold MixItem.upGain
    dsimp only
    split <;> rfl
  | earCell k x g => rw [write_earCell]; rfl
  | mute j on => rfl

theorem write_ear_gain (k : SlotId) (src : MixSource) (item : MixItem) (b : Bank) :
    (b.write item).ear[k].gain src = ((item.earGain k src).map (min 16384)).getD (b.ear[k].gain src) := by
  cases item with
  | upCell x g => rw [write_upCell]; rfl
  | earCell j x g =>
    rw [write_earCell, clampNat_zero]
    unfold MixItem.earGain
    dsimp only
    by_cases hj : j = k
    · subst hj
      rw [set_get, EarRow.gain_setGain]
      by_cases hx : x = src <;> simp [hx]
    · rw [set_get_other _ (Ne.symm hj), if_neg fun h => hj h.1]
      rfl
  | mute j on => rfl

theorem write_mutes (j : SinkId) (item : MixItem) (b : Bank) :
    (b.write item).mutes[j] = (item.muteOf j).getD b.mutes[j] := by
  cases item with
  | upCell x g => rw [write_upCell]; rfl
  | earCell k x g => rw [write_earCell]; rfl
  | mute x on =>
    unfold MixItem.muteOf
    dsimp only
    by_cases hx : x = j
    · subst hx
      rw [if_pos rfl]
      exact set_get ..
    · rw [if_neg hx]
      exact set_get_other _ (Ne.symm hx) _

/-! ### The last item for each cell stands (R123) -/

/-- The items of MIX_SET written into a bank, in order (R123). -/
def Bank.writeAll (items : List MixItem) (b : Bank) : Bank := items.foldl (fun b item => b.write item) b

/-- Where each item that speaks of a part of the bank writes it whole, the last that does stands. -/
theorem read_writeAll {α β : Type} (read : Bank → β) (said : MixItem → Option α) (value : α → β)
    (hwrite : ∀ (item : MixItem) (b : Bank), read (b.write item) = ((said item).map value).getD (read b))
    (items : List MixItem) (b : Bank) :
    read (b.writeAll items) = ((items.filterMap said).getLast?.map value).getD (read b) := by
  induction items generalizing b with
  | nil => rfl
  | cons item rest ih =>
    refine (ih (b.write item)).trans ?_
    rw [hwrite]
    cases hsaid : said item with
    | none => rw [List.filterMap_cons_none hsaid]; rfl
    | some a =>
      rw [List.filterMap_cons_some hsaid, List.getLast?_cons]
      cases (rest.filterMap said).getLast? <;> rfl

theorem lastGain_eq (given : List Nat) (old : Nat) : lastGain given old = (given.getLast?.map (min 16384)).getD old := by
  unfold lastGain
  cases given.getLast? <;> rfl

theorem writeAll_up_gain {src : MixSource} (hsrc : src ≠ .own) (items : List MixItem) (b : Bank) :
    (b.writeAll items).up.gain src = lastGain (items.filterMap (·.upGain src)) (b.up.gain src) := by
  rw [lastGain_eq]
  exact read_writeAll (fun b => b.up.gain src) _ _ (write_up_gain hsrc) items b

theorem writeAll_ear_gain (k : SlotId) (src : MixSource) (items : List MixItem) (b : Bank) :
    (b.writeAll items).ear[k].gain src = lastGain (items.filterMap (·.earGain k src)) (b.ear[k].gain src) := by
  rw [lastGain_eq]
  exact read_writeAll (fun b => b.ear[k].gain src) _ _ (write_ear_gain k src) items b

theorem writeAll_mutes (j : SinkId) (items : List MixItem) (b : Bank) :
    (b.writeAll items).mutes[j] = (items.filterMap (·.muteOf j)).getLast?.getD b.mutes[j] := by
  have hread := read_writeAll (fun b => b.mutes[j]) (·.muteOf j) id
    (fun item b => by rw [Option.map_id]; exact write_mutes j item b) items b
  rwa [Option.map_id] at hread

/-! ### MIX_SET taken and refused (R122, R123) -/

theorem clamps_eq_itemOver (item : MixItem) : item.clamps = itemOver item := by
  cases item <;> rfl

theorem any_clamps_iff (items : List MixItem) : items.any MixItem.clamps = true ↔ ∃ item ∈ items, itemOver item = true := by
  simp only [List.any_eq_true, clamps_eq_itemOver]

theorem mixSet_of_items {body : List Byte} {items : List MixItem} (hitems : mixItemsOfBody body = some items)
    (hlength : body.length % 4 = 0 ∧ 4 ≤ body.length ∧ body.length ≤ 96) (s : State) :
    mixSet body s = answerClamped (items.any MixItem.clamps) []
      { s with mix := { s.mix with shadow := s.mix.shadow.writeAll items } } := by
  unfold mixSet
  rw [if_pos hlength, hitems]
  rfl

theorem mixSet_of_none {body : List Byte} (hnone : mixItemsOfBody body = none)
    (hlength : body.length % 4 = 0 ∧ 4 ≤ body.length ∧ body.length ≤ 96) (s : State) : mixSet body s = refuse .badArg s := by
  unfold mixSet
  rw [if_pos hlength, hnone]

end Sys2Proof.Machine

open Sys2Proof Sys2Proof.Machine

/-- Settles O44: the bytes of items stand for the items, the bank written by them reads at each cell as the last item that names it,
and a group of four bytes that is no item leaves no items at all. -/
theorem mixSetWritesShadow : Obligations.MixSetWritesShadow := by
  refine fun tag s => ⟨fun items hone hmany hfit htake => ⟨s.mix.shadow.writeAll items, ?_, ?_, ?_, ?_⟩, ?_⟩
  · have hlength := flatMap_itemBytes_length items
    have hreply := takeRequest_clamped (t := { s with mix := { s.mix with shadow := s.mix.shadow.writeAll items } }) htake
      (mixSet_of_items (mixItemsOfBody_flatMap hfit) (by omega) (dropRequest s))
    refine (congrArg Host.Outcome.next hreply).trans ?_
    simp only [any_clamps_iff]
    rfl
  · intro src given hgiven
    subst hgiven
    cases src with
    | v0 => exact writeAll_up_gain (src := .v0) nofun items _
    | v1 => exact writeAll_up_gain (src := .v1) nofun items _
    | down => exact writeAll_up_gain (src := .down) nofun items _
    | own => trivial
  · intro k src given hgiven
    subst hgiven
    cases src with
    | v0 => exact writeAll_ear_gain k .v0 items _
    | v1 => exact writeAll_ear_gain k .v1 items _
    | down => exact writeAll_ear_gain k .down items _
    | own => exact writeAll_ear_gain k .own items _
  · exact fun j => writeAll_mutes j items _
  · intro before after sink source low high hbefore hafter hlength hbad htake
    have hnone := mixItemsOfBody_eq_none (mixItemOfBytes_eq_none hbad) after before hbefore
    refine congrArg Host.Outcome.next (takeRequest_refused htake (mixSet_of_none hnone ?_ _))
    simp only [List.length_append, List.length_cons, List.length_nil]
    omega
end

section
/-! The voice that a new stream takes (R138). -/

namespace Sys2Proof.Machine

open Sys2Proof

theorem awaits_left_iff (id : Byte) (v : Voice) :
    awaits (.left id) v = true ↔ v.boundTo = some (.numbered id) ∧ v.left = none := by
  simp [awaits]

theorem awaits_right_iff (id : Byte) (v : Voice) :
    awaits (.right id) v = true ↔ v.boundTo = some (.numbered id) ∧ v.right = none := by
  simp [awaits]

/-- A voice awaits an earbud of its own set alone (R138, step 2). -/
theorem boundTo_of_awaits {p : Place} {v : Voice} (h : awaits p v = true) : v.boundTo = some p.voiceSet := by
  cases p with
  | left id => exact ((awaits_left_iff id v).1 h).1
  | right id => exact ((awaits_right_iff id v).1 h).1
  | mono => cases h

/-- A voice whose set has the role filled, or is another, does not await the stream (R138, step 2). -/
theorem awaits_eq_false_of_roles {p : Place} {v : Voice}
    (h : ∀ id : Byte, v.boundTo = some (.numbered id) →
      (p = .left id → v.left ≠ none) ∧ (p = .right id → v.right ≠ none)) : awaits p v = false := by
  refine Bool.eq_false_iff.2 fun ha => ?_
  cases p with
  | left id =>
    obtain ⟨hset, hrole⟩ := (awaits_left_iff id v).1 ha
    exact (h id hset).1 rfl hrole
  | right id =>
    obtain ⟨hset, hrole⟩ := (awaits_right_iff id v).1 ha
    exact (h id hset).2 rfl hrole
  | mono => cases ha

section
variable {p : Place} {voices : Vector Voice 2} {v : VoiceId}

/-- The lowest voice that awaits the stream takes it (R138, step 2). -/
theorem voiceFor_of_awaits (ha : awaits p voices[v] = true) (hlow : ∀ w : VoiceId, w < v → awaits p voices[w] = false) :
    voiceFor p voices = some v := by
  rw [voiceFor, find?_finRange_of_lowest (p := fun i : VoiceId => awaits p voices[i]) ha hlow]
  rfl

/-- With no voice that awaits the stream, the search is for a FREE one (R138, step 3). -/
theorem voiceFor_of_unawaited (ha : ∀ w : VoiceId, awaits p voices[w] = false) :
    voiceFor p voices = (List.finRange 2).find? fun i => voices[i].boundTo == none := by
  rw [voiceFor, find?_finRange_of_none ha]
  rfl

theorem voiceFor_of_free (ha : ∀ w : VoiceId, awaits p voices[w] = false) (hfree : voices[v].boundTo = none)
    (hlow : ∀ w : VoiceId, w < v → voices[w].boundTo ≠ none) : voiceFor p voices = some v :=
  (voiceFor_of_unawaited ha).trans
    (find?_finRange_of_lowest (beq_iff_eq.2 hfree) fun w hw => beq_eq_false_iff_ne.2 (hlow w hw))

theorem voiceFor_of_none (ha : ∀ w : VoiceId, awaits p voices[w] = false)
    (hbound : ∀ w : VoiceId, voices[w].boundTo ≠ none) :
    voiceFor p voices = none :=
  (voiceFor_of_unawaited ha).trans (find?_finRange_of_none fun w => beq_eq_false_iff_ne.2 (hbound w))

end

section
variable {d : Declared} {s : State} {v : VoiceId}

theorem bindVoice_of_no_microphone (k : SlotId) (hd : d.microphone = false) : bindVoice k d s = s :=
  if_neg (ne_true_of_eq_false hd)

theorem bindVoice_of_voiceFor (k : SlotId) (hd : d.microphone = true) (hv : voiceFor d.place s.voices = some v) :
    bindVoice k d s = s.setVoice v (s.voices[v].bindMember d.place k) := by
  rw [bindVoice, if_pos hd, hv]

theorem bindVoice_of_no_voice (k : SlotId) (hd : d.microphone = true) (hv : voiceFor d.place s.voices = none) :
    bindVoice k d s = s := by
  rw [bindVoice, if_pos hd, hv]

/-- The lowest voice of a set, where it awaits the stream, has it as one more member (R138, step 2). -/
theorem bindVoice_of_awaits (k : SlotId) (hd : d.microphone = true) (ha : awaits d.place s.voices[v] = true)
    (hlow : ∀ w : VoiceId, w < v → s.voices[w].boundTo ≠ s.voices[v].boundTo) :
    bindVoice k d s = s.setVoice v (s.voices[v].addMember d.place k) := by
  have hset := boundTo_of_awaits ha
  have hnot : ∀ w : VoiceId, w < v → awaits d.place s.voices[w] = false := fun w hw =>
    Bool.eq_false_iff.2 fun hwa => hlow w hw ((boundTo_of_awaits hwa).trans hset.symm)
  rw [bindVoice_of_voiceFor k hd (voiceFor_of_awaits ha hnot), Voice.bindMember, if_neg (by rw [hset]; nofun)]

/-- The lowest FREE voice, where no voice awaits the stream, becomes BOUND with it (R138, step 3). -/
theorem bindVoice_of_free (k : SlotId) (hd : d.microphone = true) (ha : ∀ w : VoiceId, awaits d.place s.voices[w] = false)
    (hfree : s.voices[v].boundTo = none) (hlow : ∀ w : VoiceId, w < v → s.voices[w].boundTo ≠ none) :
    bindVoice k d s
      = s.setVoice v ({ s.voices[v].withoutWinner with boundTo := some d.place.voiceSet }.addMember d.place k) := by
  rw [bindVoice_of_voiceFor k hd (voiceFor_of_free ha hfree hlow), Voice.bindMember, if_pos hfree]

end

end Sys2Proof.Machine

open Sys2Proof Sys2Proof.Machine

/-- Settles O25, by the microphone, then by the voice that the search finds. -/
theorem newStreamTakesVoice : Obligations.NewStreamTakesVoice := by
  refine fun k d s => ⟨bindVoice_of_no_microphone k, fun hd => ⟨fun v setId hset hlow => ?_, fun hroles => ?_⟩⟩
  · rw [← hset] at hlow
    refine ⟨fun hplace hrole => ?_, fun hplace hrole => ?_⟩
    · have ha : awaits d.place s.voices[v] = true := hplace ▸ (awaits_left_iff setId _).2 ⟨hset, hrole⟩
      rw [bindVoice_of_awaits k hd ha hlow, hplace]
      rfl
    · have ha : awaits d.place s.voices[v] = true := hplace ▸ (awaits_right_iff setId _).2 ⟨hset, hrole⟩
      rw [bindVoice_of_awaits k hd ha hlow, hplace]
      rfl
  · have hawaits : ∀ w : VoiceId, awaits d.place s.voices[w] = false := fun w => awaits_eq_false_of_roles (hroles w)
    refine ⟨fun v hfree hlow => ?_, fun hbound => bindVoice_of_no_voice k hd (voiceFor_of_none hawaits hbound)⟩
    rw [bindVoice_of_free k hd hawaits hfree hlow]
    cases d.place <;> rfl
end

section
/-! The forming of a voice: its members present, the modes, and the election (R142, R143). -/

namespace Sys2Proof.Machine

open Sys2Proof

/-! ### The members present (R142) -/

theorem presentMember_of_output {outputs : StreamOutputs} {member : Option SlotId} {k : SlotId} {x : List Sample}
    (hm : member = some k) (hx : outputs[k] = some x) : presentMember outputs member = some ⟨k, x⟩ := by
  subst hm
  simp only [presentMember, hx]

theorem presentMember_of_absent {outputs : StreamOutputs} {member : Option SlotId}
    (h : ∀ k, member = some k → outputs[k] = none) : presentMember outputs member = none := by
  cases member with
  | none => rfl
  | some k => simp only [presentMember, h k rfl]

/-! ### A voice by its set (R142) -/

section
variable {queues : Vector RxQueue 4} {outputs : StreamOutputs} {v : Voice}

theorem formVoice_of_free (h : v.boundTo = none) : formVoice queues outputs v = ⟨v, none, none⟩ := by
  simp only [formVoice, h]

theorem formVoice_of_mono_absent (h : v.boundTo = some .mono) (hm : presentMember outputs v.mono = none) :
    formVoice queues outputs v = ⟨v, none, none⟩ := by
  simp only [formVoice, h, hm]

theorem formVoice_of_mono_present {m : Present} (h : v.boundTo = some .mono) (hm : presentMember outputs v.mono = some m) :
    formVoice queues outputs v = ⟨v.withoutWinner, some m.samples, none⟩ := by
  simp only [formVoice, h, hm]

theorem formVoice_of_numbered {id : Byte} (h : v.boundTo = some (.numbered id)) :
    formVoice queues outputs v = formSet queues (presentMember outputs v.left) (presentMember outputs v.right) v := by
  simp only [formVoice, h]

/-- With one member present, BEST elects it and the other modes give its samples (R142, R143 case 1). -/
theorem formSet_of_one {l r : Option Present} {m : Present} (h : (l = some m ∧ r = none) ∨ (l = none ∧ r = some m)) :
    formSet queues l r v = if v.mode = .best then electOne m v else ⟨v.withoutWinner, some m.samples, none⟩ := by
  rcases h with ⟨rfl, rfl⟩ | ⟨rfl, rfl⟩ <;> rfl

/-! With both members present, the mode decides (R142). -/

theorem formSet_of_left (l r : Present) (h : v.mode = .left) :
    formSet queues (some l) (some r) v = ⟨v.withoutWinner, some l.samples, none⟩ := by
  simp only [formSet, h]

theorem formSet_of_right (l r : Present) (h : v.mode = .right) :
    formSet queues (some l) (some r) v = ⟨v.withoutWinner, some r.samples, none⟩ := by
  simp only [formSet, h]

theorem formSet_of_both (l r : Present) (h : v.mode = .both) :
    formSet queues (some l) (some r) v = ⟨v.withoutWinner, some (List.zipWith meanSample l.samples r.samples), none⟩ := by
  simp only [formSet, h]

theorem formSet_of_best (l r : Present) (h : v.mode = .best) :
    formSet queues (some l) (some r) v = electBoth queues l r v := by
  simp only [formSet, h]

end

/-! ### The mean of two samples (R142) -/

/-- The mean of two samples is a sample's value. -/
theorem meanSample_toInt (a b : Sample) : (meanSample a b).toInt = (a.toInt + b.toInt + 1) / 2 := by
  have := a.toInt_lt
  have := a.le_toInt
  have := b.toInt_lt
  have := b.le_toInt
  refine BitVec.toInt_ofInt_eq_self (by decide) ?_ ?_ <;> omega

theorem zipWith_meanSample_getD {a b : List Sample} (h : a.length = b.length) {i : Nat} (hi : i < a.length) :
    ((List.zipWith meanSample a b).getD i 0).toInt = ((a.getD i 0).toInt + (b.getD i 0).toInt + 1) / 2 := by
  have hb : i < b.length := h ▸ hi
  simp [hi, hb, meanSample_toInt]

/-! ### The election (R143) -/

theorem electOne_of_no_winner {v : Voice} (m : Present) (h : v.winner = none) :
    electOne m v = ⟨v.withWinner m.slot, some m.samples, none⟩ := by
  simp only [electOne, h]

theorem electOne_of_winner {v : Voice} (m : Present) (h : v.winner = some m.slot) :
    electOne m v = ⟨v.winnerStands, some m.samples, none⟩ := by
  simp only [electOne, h, if_true]

theorem electOne_of_other_winner {v : Voice} (m : Present) {w : SlotId} (h : v.winner = some w) (hw : w ≠ m.slot) :
    electOne m v = ⟨v.withWinner m.slot, some m.samples, some 2⟩ := by
  simp only [electOne, h, if_neg hw]

theorem losesTo_iff (queues : Vector RxQueue 4) (w other : SlotId) (v : Voice) :
    losesTo queues w other v = true
      ↔ queues[other].quality.count .concealed + v.hysteresis ≤ queues[w].quality.count .concealed
        ∧ v.holdTime ≤ saturatingSucc 65535 v.sinceSwitch := by
  rw [losesTo, Bool.and_eq_true, decide_eq_true_iff, decide_eq_true_iff]
  rfl

section
variable {queues : Vector RxQueue 4} {l r : Present} {v : Voice}

theorem electBoth_of_no_winner (h : v.winner = none) :
    electBoth queues l r v = ⟨v.withWinner l.slot, some l.samples, none⟩ := by
  simp only [electBoth, h]

/-- With both members present, the winner stands unless it loses to the other member (R143, case 3). -/
theorem electBoth_of_winner {standing other : Present} (hne : l.slot ≠ r.slot)
    (hsides : (standing = l ∧ other = r) ∨ (standing = r ∧ other = l)) (h : v.winner = some standing.slot) :
    electBoth queues l r v
      = if losesTo queues standing.slot other.slot v then ⟨v.withWinner other.slot, some other.samples, some 1⟩
        else ⟨v.winnerStands, some standing.samples, none⟩ := by
  rcases hsides with ⟨rfl, rfl⟩ | ⟨rfl, rfl⟩
  · simp only [electBoth, h, if_neg hne]
  · simp only [electBoth, h, if_true]

end

end Sys2Proof.Machine

open Sys2Proof Sys2Proof.Machine

/-- Settles O47, by the members present, then by the mode, and in BEST by the winner. -/
theorem voicesAreFormed : Obligations.VoicesAreFormed := by
  refine fun queues outputs v setId => ⟨?_, fun k x hset hk hx => ?_, fun hset => ⟨fun k x hx hone => ?_,
    fun l r a b hl hr ha hb => ?_⟩⟩
  · rintro (hset | ⟨hset, habsent⟩ | ⟨hset, habsent⟩)
    · exact formVoice_of_free hset
    · exact formVoice_of_mono_absent hset (presentMember_of_absent habsent)
    · rw [formVoice_of_numbered hset, presentMember_of_absent fun k hk => habsent k (.inl hk),
        presentMember_of_absent fun k hk => habsent k (.inr hk)]
      rfl
  · exact formVoice_of_mono_present hset (presentMember_of_output hk hx)
  · have hpresent : (presentMember outputs v.left = some ⟨k, x⟩ ∧ presentMember outputs v.right = none)
        ∨ (presentMember outputs v.left = none ∧ presentMember outputs v.right = some ⟨k, x⟩) :=
      hone.imp (fun ⟨hk, habsent⟩ => ⟨presentMember_of_output hk hx, presentMember_of_absent habsent⟩)
        fun ⟨hk, habsent⟩ => ⟨presentMember_of_absent habsent, presentMember_of_output hk hx⟩
    rw [formVoice_of_numbered hset, formSet_of_one hpresent]
    refine ⟨fun hmode => if_neg hmode, fun hmode => ?_⟩
    rw [if_pos hmode]
    exact ⟨electOne_of_no_winner ⟨k, x⟩, electOne_of_winner ⟨k, x⟩, fun w => electOne_of_other_winner ⟨k, x⟩⟩
  · rw [formVoice_of_numbered hset, presentMember_of_output hl ha, presentMember_of_output hr hb]
    refine ⟨formSet_of_left _ _, formSet_of_right _ _,
      fun hmode hlength => ⟨List.zipWith meanSample a b, formSet_of_both _ _ hmode, ?_, fun i hi => ?_⟩, fun hmode => ?_⟩
    · rw [List.length_zipWith, ← hlength, min_self]
    · exact zipWith_meanSample_getD hlength hi
    · rw [formSet_of_best _ _ hmode]
      refine ⟨electBoth_of_no_winner, fun winner other xWinner xOther qWinner qOther since hw hne hsides hqw hqo hsince => ?_⟩
      have hpair : ((⟨winner, xWinner⟩ : Present) = ⟨l, a⟩ ∧ (⟨other, xOther⟩ : Present) = ⟨r, b⟩)
          ∨ ((⟨winner, xWinner⟩ : Present) = ⟨r, b⟩ ∧ (⟨other, xOther⟩ : Present) = ⟨l, a⟩) := by
        simp only [Prod.mk.injEq, Present.mk.injEq] at hsides ⊢
        tauto
      subst hqw hqo hsince
      rw [electBoth_of_winner hne hpair hw, if_congr (losesTo_iff ..) rfl rfl]
      rfl
end

section
/-! VOICE_SET and WATCH_SET: the choices and the clamps of their bodies (R141, R150). -/

namespace Sys2Proof.Machine

open Sys2Proof

theorem voiceModeOfByte_of_le {b : Byte} (h : 4 ≤ b.toNat) : voiceModeOfByte b = none := by
  unfold voiceModeOfByte; split <;> [omega; omega; omega; omega; rfl]

theorem watchKindOfByte_of_le {b : Byte} (h : 3 ≤ b.toNat) : watchKindOfByte b = none := by
  unfold watchKindOfByte; split <;> [omega; omega; omega; rfl]

/-- A number is its own clamp exactly when it lies in the range. -/
theorem clampNat_eq_iff {low high : Nat} (h : low ≤ high) (n : Nat) : clampNat low high n = n ↔ low ≤ n ∧ n ≤ high := by
  unfold clampNat; omega

/-- The status of a reply to two numbers that may be clamped: OK exactly when both are their own clamps. -/
theorem clampedStatus_of_iff {a b m n : Nat} {p : Prop} [Decidable p] (h : (a = m ∧ b = n) ↔ p) :
    (if (a != m || b != n) = true then 1 else 0 : Byte) = if p then 0 else 1 := by
  have hiff : (a != m || b != n) = true ↔ ¬p := by
    rw [Bool.or_eq_true, bne_iff_ne, bne_iff_ne, ← not_and_or, h]
  rw [if_congr hiff rfl rfl, ite_not]

section
variable {x y : Byte} (low high : Byte) (s : State)

/-- VOICE_SET of another voice or mode is refused (R141). -/
theorem voiceSet_of_le (h : 2 ≤ x.toNat ∨ 4 ≤ y.toNat) : voiceSet [x, y, low, high] s = refuse .badArg s := by
  simp only [voiceSet]
  split
  · next i mode hi hmode =>
    rcases h with h | h
    · cases (indexOfByte_of_le h).symm.trans hi
    · cases (voiceModeOfByte_of_le h).symm.trans hmode
  · rfl

/-- VOICE_SET of a voice and a mode writes the mode and the two numbers clamped (R141). -/
theorem voiceSet_of_fields {i : VoiceId} {mode : VoiceMode} (hi : indexOfByte 2 x = some i)
    (hmode : voiceModeOfByte y = some mode) :
    voiceSet [x, y, low, high] s
      = answerClamped (clampNat 1 8 low.toNat != low.toNat || clampNat 1 64 high.toNat != high.toNat) []
        (s.setVoice i
          { s.voices[i] with mode := mode, hysteresis := clampNat 1 8 low.toNat, holdTime := clampNat 1 64 high.toNat }) := by
  simp only [voiceSet, hi, hmode]

variable (count : Byte)

/-- WATCH_SET of another sink or kind is refused (R150). -/
theorem watchSet_of_le (h : 5 ≤ x.toNat ∨ 3 ≤ y.toNat) : watchSet [x, y, low, high, count] s = refuse .badArg s := by
  simp only [watchSet]
  split
  · next j kind hj hkind =>
    rcases h with h | h
    · cases (indexOfByte_of_le h).symm.trans hj
    · cases (watchKindOfByte_of_le h).symm.trans hkind
  · rfl

/-- WATCH_SET of a sink and a kind writes the watch anew, with the two numbers clamped (R150). -/
theorem watchSet_of_fields {j : SinkId} {kind : WatchKind} (hj : indexOfByte 5 x = some j)
    (hkind : watchKindOfByte y = some kind) :
    watchSet [x, y, low, high, count] s
      = answerClamped
        (clampNat 0 32767 (number2 low high) != number2 low high || clampNat 1 255 count.toNat != count.toNat) []
        (s.setWatch j ⟨kind, clampNat 0 32767 (number2 low high), clampNat 1 255 count.toNat, 0, false⟩) := by
  simp only [watchSet, hj, hkind]

end

end Sys2Proof.Machine

open Sys2Proof Sys2Proof.Machine

/-- Settles O48: each request by what its first two bytes stand for, its status by the clamps of its numbers. -/
theorem voiceAndWatchSet : Obligations.VoiceAndWatchSet := by
  refine fun tag x y low high count s => ⟨fun ht => ⟨fun h => ?_, fun i mode hx hy => ?_⟩,
    fun ht => ⟨fun h => ?_, fun j kind hx hy => ?_⟩⟩
  · exact congrArg Host.Outcome.next (takeRequest_refused ht (voiceSet_of_le low high _ h))
  · have hi : indexOfByte 2 x = some i := hx ▸ indexOfByte_ofNat 2 i (by decide)
    have hmode : voiceModeOfByte y = some mode := by subst hy; cases mode <;> rfl
    have hreply := takeRequest_clamped (t := s.setVoice i
        { s.voices[i] with mode := mode, hysteresis := clampNat 1 8 low.toNat, holdTime := clampNat 1 64 high.toNat })
      ht (voiceSet_of_fields low high (dropRequest s) hi hmode)
    rw [clampedStatus_of_iff (p := 1 ≤ low.toNat ∧ low.toNat ≤ 8 ∧ 1 ≤ high.toNat ∧ high.toNat ≤ 64)
      (by rw [clampNat_eq_iff (by decide), clampNat_eq_iff (by decide), and_assoc])] at hreply
    exact congrArg Host.Outcome.next hreply
  · exact congrArg Host.Outcome.next (takeRequest_refused ht (watchSet_of_le low high _ count h))
  · have hj : indexOfByte 5 x = some j := hx ▸ indexOfByte_ofNat 5 j (by decide)
    have hkind : watchKindOfByte y = some kind := by subst hy; cases kind <;> rfl
    have hcount : clampNat 1 255 count.toNat = max 1 count.toNat := by
      have := count.isLt
      unfold clampNat
      omega
    have hreply := takeRequest_clamped (t := s.setWatch j
        ⟨kind, clampNat 0 32767 (number2 low high), clampNat 1 255 count.toNat, 0, false⟩)
      ht (watchSet_of_fields low high (dropRequest s) count hj hkind)
    rw [clampedStatus_of_iff (p := number2 low high ≤ 32767 ∧ 1 ≤ count.toNat)
      (by rw [clampNat_eq_iff (by decide), clampNat_eq_iff (by decide)]; have := count.isLt; omega),
      clampNat_zero, hcount] at hreply
    exact congrArg Host.Outcome.next hreply
end

section
/-! A block handed to a watch (R147, R148). -/

namespace Sys2Proof.Machine

open Sys2Proof

/-- The peak of a block is the largest of its samples' magnitudes (R147). -/
theorem peakOf_eq (block : List Sample) : peakOf block = (block.map fun x => x.toInt.natAbs).foldl max 0 :=
  List.foldl_map.symm

theorem evaluated_iff (w : Watch) : w.evaluated = true ↔ w.kind ≠ .off ∧ w.fired = false := by
  simp [Watch.evaluated]

theorem evaluated_of_kind {w : Watch} (hkind : w.kind = .peakOver ∨ w.kind = .quiet) (hfired : w.fired = false) :
    w.evaluated = true :=
  (evaluated_iff w).2 ⟨by rcases hkind with h | h <;> rw [h] <;> nofun, hfired⟩

theorem meets_of_peakOver {w : Watch} (h : w.kind = .peakOver) (block : List Sample) :
    w.meets block = true ↔ w.level ≤ peakOf block := by
  simp only [Watch.meets, h, decide_eq_true_iff]

theorem meets_of_quiet {w : Watch} (h : w.kind = .quiet) (block : List Sample) :
    w.meets block = true ↔ peakOf block < w.level := by
  simp only [Watch.meets, h, decide_eq_true_iff]

theorem runAfter_of_meets {w : Watch} {block : List Sample} (h : w.meets block = true) : w.runAfter block = w.run + 1 :=
  if_pos h

theorem runAfter_of_not_meets {w : Watch} {block : List Sample} (h : ¬w.meets block = true) : w.runAfter block = 0 :=
  if_neg h

section
variable {j : SinkId} {block : List Sample} {s : State} {w : Watch}

/-- A watch that is OFF or FIRED is not evaluated (R147). -/
theorem handToWatch_of_not_evaluated (hw : w = s.watches[j]) (h : ¬w.evaluated = true) : handToWatch j block s = s := by
  have hstands : w.after block = w := if_neg h
  subst hw
  rw [handToWatch, hstands, if_neg fun hf => h (Bool.and_eq_true_iff.1 hf).1, State.setWatch, set_get_self]

/-- A watch evaluated whose run is not at its count takes the run (R147). -/
theorem handToWatch_of_run (hw : w = s.watches[j]) (h : w.evaluated = true) (hrun : w.runAfter block ≠ w.count) :
    handToWatch j block s = { s with watches := s.watches.set j { w with run := w.runAfter block } } := by
  obtain ⟨-, hfired⟩ := (evaluated_iff w).1 h
  have hafter : w.after block = { w with run := w.runAfter block } := by
    rw [Watch.after, if_pos h, beq_eq_false_iff_ne.2 hrun, ← hfired]
  subst hw
  rw [handToWatch, hafter, if_neg (by rw [Bool.and_eq_true, beq_iff_eq]; exact fun hf => hrun hf.2)]
  rfl

/-- A watch evaluated whose run reaches its count fires, with WATCH (R148). -/
theorem handToWatch_of_fires (hw : w = s.watches[j]) (h : w.evaluated = true) (hrun : w.runAfter block = w.count) :
    handToWatch j block s
      = raiseAt Source.watch w.kind.code j { s with watches := s.watches.set j { w with run := w.count, fired := true } } := by
  have hafter : w.after block = { w with run := w.count, fired := true } := by
    rw [Watch.after, if_pos h, hrun, beq_self_eq_true]
  subst hw
  rw [handToWatch, hafter, if_pos (by rw [Bool.and_eq_true, beq_iff_eq]; exact ⟨h, hrun⟩)]
  rfl

end

end Sys2Proof.Machine

open Sys2Proof Sys2Proof.Machine

/-- Settles O49: by whether the watch is evaluated, then by whether the peak meets its condition, then by its count. -/
theorem watchesFire : Obligations.WatchesFire := by
  intro j block s w peak hw hpeak hcount
  rw [← peakOf_eq] at hpeak
  subst hpeak
  refine ⟨fun h => handToWatch_of_not_evaluated hw ?_, fun hfired => ⟨fun h => ?_, fun h => ?_⟩⟩
  · rw [evaluated_iff]
    exact fun ⟨hkind, hfired⟩ => h.elim hkind fun hf => Bool.noConfusion (hfired.symm.trans hf)
  · have heval := evaluated_of_kind (h.imp And.left And.left) hfired
    have hmiss : ¬w.meets block = true := by
      rcases h with ⟨hk, hlevel⟩ | ⟨hk, hlevel⟩
      · exact fun hm => absurd hlevel (Nat.not_lt.2 ((meets_of_peakOver hk block).1 hm))
      · exact fun hm => absurd hlevel (Nat.not_le.2 ((meets_of_quiet hk block).1 hm))
    have hrun := runAfter_of_not_meets hmiss
    rw [handToWatch_of_run hw heval (by omega), hrun]
  · have heval := evaluated_of_kind (h.imp And.left And.left) hfired
    have hmeets : w.meets block = true :=
      h.elim (fun ⟨hk, hlevel⟩ => (meets_of_peakOver hk block).2 hlevel)
        fun ⟨hk, hlevel⟩ => (meets_of_quiet hk block).2 hlevel
    have hrun := runAfter_of_meets hmeets
    have hcode : w.kind.code = if w.kind = .peakOver then 1 else 2 := by
      rcases h with ⟨hk, -⟩ | ⟨hk, -⟩ <;> rw [hk] <;> rfl
    refine ⟨fun hne => ?_, fun heq => ?_⟩
    · rw [handToWatch_of_run hw heval (hrun ▸ hne), hrun]
    · rw [handToWatch_of_fires hw heval (hrun.trans heq), hcode]
end

section
/-! NOTICE_ACK: the end of a report, the sources it clears and the watches it re-arms (R149, R166, R168). -/

namespace Sys2Proof.Machine

open Sys2Proof

section
variable {x : Byte} {s : State} {c : ClassId}

theorem noticeAck_of_le (h : 4 ≤ x.toNat) : noticeAck [x] s = refuse .badArg s := by
  simp only [noticeAck, indexOfByte_of_le h]

theorem noticeAck_of_no_report (hc : indexOfByte 4 x = some c) (h : s.notices.outstanding[c] = none) :
    noticeAck [x] s = refuse .badState s := by
  simp only [noticeAck, hc, h]

theorem noticeAck_of_report {report : List Listed} (hc : indexOfByte 4 x = some c)
    (h : s.notices.outstanding[c] = some report) :
    noticeAck [x] s = answerOk []
      { s with
        notices := acknowledge c report s.notices
        watches := rearmWatches report s.notices.records[Source.watch].indexSet s.watches } := by
  simp only [noticeAck, hc, h]

end

/-- A source that the report listed is cleared unless it has had an occurrence since (R166). -/
theorem acknowledge_record (c : ClassId) (report : List Listed) (n : Notices) (src : SourceId) :
    (acknowledge c report n).records[src]
      = if (∃ l ∈ report, l.source = src) ∧ n.records[src].occurrences = 0
        then { n.records[src] with asserted := false } else n.records[src] := by
  have hlisted : report.any (fun l => l.source == src) = true ↔ ∃ l ∈ report, l.source = src := by simp
  refine (Vector.getElem_ofFn src.isLt).trans ?_
  rw [if_congr hlisted rfl rfl, SourceRecord.acknowledged, ite_and]

/-- The end of a report ends it for its class, keeps routes and masks, and settles the attention line (R166, R168). -/
theorem acknowledge_spec (c : ClassId) (report : List Listed) (n : Notices) :
    (acknowledge c report n).outstanding = n.outstanding.set c none
      ∧ (acknowledge c report n).route = n.route ∧ (acknowledge c report n).classes = n.classes
      ∧ ((acknowledge c report n).atn = true
        ↔ attentionDue (acknowledge c report n).records (acknowledge c report n).route (acknowledge c report n).classes) := by
  obtain ⟨u, hu, hends, hroute, hclasses⟩ : ∃ u : Notices, acknowledge c report n = settleAttention u
      ∧ u.outstanding = n.outstanding.set c none ∧ u.route = n.route ∧ u.classes = n.classes := ⟨_, rfl, rfl, rfl, rfl⟩
  obtain ⟨hrecords, hroute', hclasses', hends', hatn⟩ := settleAttention_spec u
  rw [hu, hends', hroute', hclasses', hatn, hrecords, hends, hroute, hclasses]
  exact ⟨rfl, rfl, rfl, Iff.rfl⟩

/-- A report that lists WATCH once re-arms the watches of the sinks it told of that have not fired since; another re-arms none
(R149). -/
theorem rearmWatches_get {report : List Listed} (hone : ∀ l ∈ report, ∀ l' ∈ report, l.source = l'.source → l = l')
    (now : IndexSet) (watches : Vector Watch 5) (j : SinkId) :
    (rearmWatches report now watches)[j]
      = if (∃ l ∈ report, l.source = Source.watch ∧ l.indexSet.getLsbD j.val = true) ∧ now.getLsbD j.val = false
        then { watches[j] with fired := false, run := 0 } else watches[j] := by
  unfold rearmWatches
  split
  · next l hl =>
    have hmem := List.mem_of_find?_eq_some hl
    have hsource : l.source = Source.watch := by simpa using List.find?_some hl
    have htold : (∃ l' ∈ report, l'.source = Source.watch ∧ l'.indexSet.getLsbD j.val = true)
        ↔ l.indexSet.getLsbD j.val = true :=
      ⟨fun ⟨l', hmem', hsource', hbit⟩ => hone l' hmem' l hmem (hsource'.trans hsource.symm) ▸ hbit,
        fun hbit => ⟨l, hmem, hsource, hbit⟩⟩
    refine (Vector.getElem_ofFn j.isLt).trans (if_congr ?_ rfl rfl)
    rw [Bool.and_eq_true, Bool.not_eq_true', htold]
  · next hnone =>
    rw [if_neg]
    rintro ⟨⟨l, hmem, hsource, -⟩, -⟩
    exact List.find?_eq_none.1 hnone l hmem (beq_iff_eq.2 hsource)

end Sys2Proof.Machine

open Sys2Proof Sys2Proof.Machine

/-- Settles O52, by the class and its outstanding report; what the report's end leaves is said record by record and
watch by watch. -/
theorem ackEndsReport : Obligations.AckEndsReport := by
  refine fun tag x s ht => ⟨fun h => ?_, fun cls hx => ?_⟩
  · exact congrArg Host.Outcome.next (takeRequest_refused ht (noticeAck_of_le h))
  · have hcls : indexOfByte 4 x = some cls := hx ▸ indexOfByte_ofNat 4 cls (by decide)
    refine ⟨fun hnone => ?_, fun report hreport hone => ?_⟩
    · exact congrArg Host.Outcome.next (takeRequest_refused ht (noticeAck_of_no_report (s := dropRequest s) hcls hnone))
    · obtain ⟨hends, hroute, hclasses, hatn⟩ := acknowledge_spec cls report s.notices
      refine ⟨acknowledge cls report s.notices, rearmWatches report s.notices.records[Source.watch].indexSet s.watches, ?_,
        acknowledge_record cls report s.notices, hends, hroute, hclasses, hatn, rearmWatches_get hone _ s.watches⟩
      exact congrArg Host.Outcome.next (takeRequest_answered
        (t := { s with
          notices := acknowledge cls report s.notices
          watches := rearmWatches report s.notices.records[Source.watch].indexSet s.watches })
        ht (noticeAck_of_report (s := dropRequest s) hcls hreport))
end

section
/-! What a command does to the laws of the lines and queues of the host's side (R162, R164, R168, R170, R174), and how the notices keep
theirs. -/

namespace Sys2Proof.Machine

open Sys2Proof

/-- The law of the attention line: it stands where settling it would put it (R168). -/
theorem attentionLaw_iff (s : State) : attentionLaw s ↔ s.notices.atn = attentionLevel s.notices := by
  rw [Bool.eq_iff_iff, attentionLevel_iff]

/-- From `s` to `t` each law of the host's side is kept. -/
structure HostKept (s t : State) : Prop where
  attention : attentionLaw s → attentionLaw t
  reports : reportLaw s → reportLaw t
  flow : flowLaw s → flowLaw t
  queues : portQueuesLaw s → portQueuesLaw t

/-- From `s` to `t` the laws of notices are kept, and of the Control Port nothing moves but that a RESET_SOFT may be asked for: what a
command does that is neither a byte on CPRX nor a frame on CPTX, and what an answer to a request does. -/
structure NoticesKept (s t : State) : Prop where
  port : t.control = { s.control with softReset := t.control.softReset }
  attention : attentionLaw s → attentionLaw t
  reports : reportLaw s → reportLaw t

namespace HostKept

theorem refl (s : State) : HostKept s s := ⟨id, id, id, id⟩

theorem trans {s t u : State} (h : HostKept s t) (g : HostKept t u) : HostKept s u where
  attention := g.attention ∘ h.attention
  reports := g.reports ∘ h.reports
  flow := g.flow ∘ h.flow
  queues := g.queues ∘ h.queues

/-- Another Control Port matters for the laws of CRDY and of the two queues alone. -/
theorem setControl {s : State} {c : ControlPort} (hf : flowLaw s → flowLaw (s.setControl c))
    (hq : portQueuesLaw s → portQueuesLaw (s.setControl c)) : HostKept s (s.setControl c) :=
  ⟨id, id, hf, hq⟩

end HostKept

namespace NoticesKept

/-- A port that stands keeps the laws of CRDY and of the two queues. -/
theorem hostKept {s t : State} (h : NoticesKept s t) : HostKept s t where
  attention := h.attention
  reports := h.reports
  flow := by unfold flowLaw; rw [h.port]; exact id
  queues := by unfold portQueuesLaw; rw [h.port]; exact id

theorem refl (s : State) : NoticesKept s s := ⟨rfl, id, id⟩

theorem trans {s t u : State} (h : NoticesKept s t) (g : NoticesKept t u) : NoticesKept s u where
  port := g.port.trans (by rw [h.port])
  attention := g.attention ∘ h.attention
  reports := g.reports ∘ h.reports

/-- Where the notices and the Control Port stand, the laws are kept as they are. -/
theorem untouched {s t : State} (h : (t.notices, t.control) = (s.notices, s.control)) : NoticesKept s t := by
  obtain ⟨hnotices, hcontrol⟩ := Prod.mk.inj h
  constructor
  · rw [hcontrol]
  · rw [attentionLaw_iff, attentionLaw_iff, hnotices]; exact id
  · unfold reportLaw; rw [hnotices]; exact id

/-- The port is no part of the host's side. -/
theorem withPort {s t : State} (h : NoticesKept s t) (p : PortRecord) : NoticesKept s { t with port := p } :=
  ⟨h.port, h.attention, h.reports⟩

/-- What is done under a condition. -/
theorem of_if {c : Prop} {_ : Decidable c} {s t : State} (h : NoticesKept s t) : NoticesKept s (if c then t else s) := by
  split
  · exact h
  · exact .refl s

end NoticesKept

/-! ### Occurrences, reports and their settings (R160, R162 to R168) -/

/-- An occurrence leaves every asserted source asserted (R160). -/
theorem occur_asserted {n : Notices} {other : SourceId} (h : n.records[other].asserted = true) (src : SourceId)
    (index : Option Nat) (code : Byte) (value : Count32) : (n.occur src index code value).records[other].asserted = true := by
  by_cases hs : other = src
  · rw [hs, Notices.occur_record]; rfl
  · rw [Notices.occur_record_other hs]; exact h

/-- An occurrence keeps the laws: it settles the attention line, and clears no source (R160, R168). -/
theorem NoticesKept.occurred {s t : State} {src : SourceId} {index : Option Nat} {code : Byte} {value : Count32}
    (h : (t.notices, t.control) = (s.notices.occur src index code value, s.control)) : NoticesKept s t := by
  obtain ⟨hnotices, hcontrol⟩ := Prod.mk.inj h
  constructor
  · rw [hcontrol]
  · rw [attentionLaw_iff t, hnotices]
    exact fun _ => rfl
  · unfold reportLaw
    rw [hnotices]
    intro hlisted cls other hany
    obtain ⟨hroute, hasserted⟩ := hlisted cls other hany
    exact ⟨hroute, occur_asserted hasserted ..⟩

/-- A source is listed for a class whose outstanding report has an item for it (R164). -/
theorem reportLists_iff (outstanding : Option (List Listed)) (src : SourceId) :
    (outstanding.getD []).any (fun l => l.source == src) = true
      ↔ ∃ report : List Listed, outstanding = some report ∧ ∃ l ∈ report, l.source = src := by
  cases outstanding with
  | none => simp
  | some report => simp

/-- The making of a report asserts no source and clears none (R164). -/
theorem makeReport_asserted (c : ClassId) (n : Notices) (src : SourceId) :
    (makeReport c n).records[src].asserted = n.records[src].asserted := by
  obtain ⟨hrecords, -⟩ := makeReport_spec c n
  rw [hrecords]
  split <;> rfl

/-- A report made lists sources of its class that are asserted, and leaves the attention line due as before (R164, R168). -/
theorem notices_makeReport (c : ClassId) (s : State) : NoticesKept s { s with notices := makeReport c s.notices } where
  port := rfl
  attention h := by
    refine h.trans (exists_congr fun src => ?_)
    rw [makeReport_asserted]
    rfl
  reports h cls src hany := by
    rw [makeReport_asserted]
    by_cases hc : cls = c
    · subst hc
      have hlisted : src ∈ assertedIn cls s.notices := by
        simpa [makeReport, List.any_map] using hany
      obtain ⟨-, hasserted⟩ := List.mem_filter.1 hlisted
      rw [Bool.and_eq_true, beq_iff_eq] at hasserted
      exact hasserted.symm
    · refine h cls src ?_
      simpa only [makeReport, set_get_other _ hc] using hany

theorem notices_noticePoll (body : List Byte) (s : State) : NoticesKept s (noticePoll body s).state := by
  unfold noticePoll
  split
  · split
    · split
      · split
        · exact .refl s
        · exact notices_makeReport _ s
      · exact .refl s
    · exact .refl s
  · exact .refl s

/-- A source that no outstanding report lists may move, and the attention line is settled (R162, R168). -/
theorem notices_noticeRoute (body : List Byte) (s : State) : NoticesKept s (noticeRoute body s).state := by
  unfold noticeRoute
  split
  · split
    · next src c _ _ =>
      split
      · exact .refl s
      · next hunlisted =>
        refine ⟨rfl, fun _ => attentionLevel_iff _, fun h cls other hany => ?_⟩
        obtain ⟨hroute, hasserted⟩ := h cls other hany
        have hother : other ≠ src := fun e => hunlisted (List.any_eq_true.2 ⟨cls, List.mem_finRange cls, e ▸ hany⟩)
        exact ⟨(set_get_other _ hother c).trans hroute, hasserted⟩
    · exact .refl s
  · exact .refl s

theorem notices_noticeMask (body : List Byte) (s : State) : NoticesKept s (noticeMask body s).state := by
  unfold noticeMask
  split
  · split
    · exact ⟨rfl, fun _ => attentionLevel_iff _, id⟩
    · exact .refl s
  · exact .refl s

/-- The end of a report clears sources that it lists, which belong to its class and so are listed by no other report (R162, R166). -/
theorem notices_noticeAck (body : List Byte) (s : State) : NoticesKept s (noticeAck body s).state := by
  unfold noticeAck
  split
  · split
    · next c _ =>
      split
      · next report hreport =>
        obtain ⟨hends, hroute, -, hatn⟩ := acknowledge_spec c report s.notices
        refine ⟨rfl, fun _ => hatn, fun h cls src hany => ?_⟩
        have hany' : (((s.notices.outstanding.set c none)[cls]).getD []).any (fun l => l.source == src) = true := hends ▸ hany
        have hc : cls ≠ c := by
          rintro rfl
          rw [set_get] at hany'
          cases hany'
        rw [set_get_other _ hc] at hany'
        obtain ⟨hclass, hasserted⟩ := h cls src hany'
        have hunlisted : ¬∃ l ∈ report, l.source = src := fun hl =>
          have ⟨hother, _⟩ := h c src ((reportLists_iff _ src).2 ⟨report, hreport, hl⟩)
          hc (hclass.symm.trans hother)
        refine ⟨(congrArg (·[src]) hroute).trans hclass, ?_⟩
        show (acknowledge c report s.notices).records[src].asserted = true
        rw [acknowledge_record, if_neg fun hcleared => hunlisted hcleared.1]
        exact hasserted
      · exact .refl s
    · exact .refl s
  · exact .refl s

/-! ### The taking of a request (R173, R174) -/

/-- A request taken leaves the request queue, and its reply enters a reply queue that had room (R174). -/
theorem host_takeWith (kind : Byte) (m : Message) {answer : State → Answer} (h : ∀ u : State, NoticesKept u (answer u).state)
    (s : State) : HostKept s (takeWith kind m answer s) := by
  by_cases ht : takeable m s
  · rw [takeWith_of_takeable ht]
    obtain ⟨hroom, -, -⟩ := ht
    have hanswer := h (dropRequest s)
    have hqueues : (answer (dropRequest s)).state.control.requests = s.control.requests.tail
        ∧ (answer (dropRequest s)).state.control.replies = s.control.replies := by
      rw [hanswer.port]
      exact ⟨rfl, rfl⟩
    obtain ⟨hrequests, hreplies⟩ := hqueues
    refine ⟨hanswer.attention, hanswer.reports, hanswer.hostKept.flow, fun ⟨hq, _⟩ => ?_⟩
    show (answer (dropRequest s)).state.control.requests.length ≤ 4
      ∧ ((answer (dropRequest s)).state.control.replies ++ [_]).length ≤ 4
    rw [hrequests, hreplies, List.length_tail, List.length_append, List.length_singleton]
    omega
  · rw [takeWith_of_not_takeable ht]
    exact .refl s

theorem host_takeRequest (kind tag : Byte) (body : List Byte) {answer : State → Answer}
    (h : ∀ u : State, NoticesKept u (answer u).state) (s : State) : HostKept s (takeRequest kind tag body answer s) :=
  host_takeWith _ _ h s

theorem host_unknownKindRequest (kind tag : Byte) (body : List Byte) (s : State) :
    HostKept s (if isRequestKind kind then s else takeWith 0x80 ⟨kind, tag, body⟩ (refuse .unknownKind) s) := by
  split
  · exact .refl s
  · exact host_takeWith _ _ NoticesKept.refl s

end Sys2Proof.Machine
end

section
/-! The Control Port, and the laws of CRDY and of its two queues (R170 to R176). -/

namespace Sys2Proof.Machine

open Sys2Proof

/-! ### The bytes of the buffer (R170, R172) -/

/-- CRDY settled over at most 1,024 bytes has its law, whatever it was before (R170). -/
theorem flow_settleReady {c : ControlPort} (h : bufferedBytes c ≤ 1024) (s : State) : flowLaw (s.setControl (settleReady c)) := by
  refine ⟨fun hfull => if_pos hfull, fun hempty => ?_, h⟩
  exact (if_neg (by have : bufferedBytes c ≤ 256 := hempty; omega)).trans (if_pos hempty)

theorem bufferedBytes_dropFrame_le (c : ControlPort) : bufferedBytes c.dropFrame ≤ bufferedBytes c :=
  Nat.add_le_add_left (Nat.zero_le _) _

theorem bufferedBytes_store (b : Byte) (now : Tick) (c : ControlPort) : bufferedBytes (c.store b now) = bufferedBytes c + 1 := by
  show (c.goodFrames.map List.length).sum + (c.openFrame ++ [b]).length = _
  rw [List.length_append]
  rfl

/-- A frame kept stays in the buffer. -/
theorem bufferedBytes_keepFrame (c : ControlPort) : bufferedBytes c.keepFrame = bufferedBytes c := by
  simp [bufferedBytes, ControlPort.keepFrame]

/-! ### The receiver (R172, R174) -/

/-- A frame discarded leaves the buffer, and its fault is told (R172). -/
theorem host_discardFrame (code : Byte) (s : State) : HostKept s (discardFrame code s) := by
  have hdropped : HostKept s (s.setControl s.control.dropFrame) := by
    refine .setControl (fun ⟨_, _, hbytes⟩ => flow_settleReady ?_ s) id
    exact (bufferedBytes_dropFrame_le s.control).trans hbytes
  have hcounted : ∀ u : State, HostKept u (u.setControl { u.control with faultCount := bump u.control.faultCount }) :=
    fun _ => .setControl id id
  exact (hdropped.trans (hcounted _)).trans (NoticesKept.occurred rfl).hostKept

/-- A good frame that a free place admits leaves the buffer and becomes at most one request (R174). -/
theorem host_queueFrame (s : State) : HostKept s (s.setControl s.control.queueFrame) := by
  unfold ControlPort.queueFrame
  split
  · exact .refl s
  · next bytes rest hframes =>
    split
    · next hadmits =>
      have hroom : s.control.requests.length < 4 := by
        simp only [ControlPort.admits, Bool.and_eq_true, decide_eq_true_eq] at hadmits
        exact hadmits.1
      have hone : (messageOfFrame bytes).toList.length ≤ 1 := Option.length_toList_le
      refine .setControl (fun ⟨_, _, hbytes⟩ => flow_settleReady ?_ s) fun ⟨_, hreplies⟩ => ⟨?_, hreplies⟩
      · simp only [bufferedBytes, hframes, List.map_cons, List.sum_cons] at hbytes ⊢
        omega
      · show (s.control.requests ++ (messageOfFrame bytes).toList).length ≤ 4
        rw [List.length_append]
        omega
    · exact .refl s

theorem host_settleFrame (s : State) : HostKept s (settleFrame s) := by
  have hkept : HostKept s (s.setControl s.control.keepFrame) :=
    .setControl (by unfold flowLaw; exact bufferedBytes_keepFrame s.control ▸ id) id
  unfold settleFrame
  split
  · exact .refl s
  · exact host_discardFrame 2 s
  · exact host_discardFrame 1 s
  · exact hkept.trans (host_queueFrame _)

/-- A byte is stored where fewer than 1,024 are held (R170, R172). -/
theorem host_receiveByte (b : Byte) (s : State) : HostKept s (receiveByte b s) := by
  unfold receiveByte
  split
  · exact .refl s
  · split
    · exact host_discardFrame 4 s
    · next hroom =>
      have hstored : HostKept s (s.setControl (s.control.store b s.air.timeBase)) := by
        refine .setControl (fun _ => flow_settleReady ?_ s) id
        exact (bufferedBytes_store b s.air.timeBase s.control).trans_le (Nat.lt_of_not_le hroom)
      exact hstored.trans (host_settleFrame _)

theorem host_byteTimeout (s : State) : HostKept s (byteTimeout s) := by
  unfold byteTimeout
  split
  · exact host_discardFrame 3 s
  · exact .refl s

/-! ### The transmitter, and the reset (R2, R175, R176) -/

theorem host_transmitStart (hostReady : Bool) (s : State) : HostKept s (transmitStart hostReady s) := by
  have hsent : ∀ (what : SendingKind) (m : Message) (u : State), HostKept u (send what m u) :=
    fun _ _ _ => .setControl id id
  unfold transmitStart
  split
  · unfold chooseFrame
    split
    · exact .setControl id id
    · split
      · exact hsent _ _ s
      · split
        · exact (notices_makeReport _ s).hostKept.trans (hsent _ _ _)
        · exact .refl s
  · exact .refl s

/-- A reply sent leaves the reply queue (R175). -/
theorem host_transmitDone (s : State) : HostKept s (transmitDone s) := by
  unfold transmitDone
  split
  · exact .refl s
  · split
    · exact .setControl id id
    · exact .setControl id id
    · have hshorter : s.control.replies.tail.length ≤ s.control.replies.length := by
        rw [List.length_tail]
        exact Nat.sub_le ..
      unfold ControlPort.settleReset
      split <;> exact .setControl id fun ⟨hrequests, hreplies⟩ => ⟨hrequests, hshorter.trans hreplies⟩

/-- The state after reset has every law (R2). -/
theorem host_resetPart (s : State) : HostKept s (resetPart s) := by
  obtain ⟨-, -, -, -, -, -, -, -, -, -, -, -, -, -, hattention, hreports, hflow, hqueues⟩ := resetKeepsEveryLaw
  exact ⟨fun _ => hattention, fun _ => hreports, fun _ => hflow, fun _ => hqueues⟩

theorem host_softReset (s : State) : HostKept s (softReset s) := by
  unfold softReset
  split
  · exact host_resetPart s
  · exact .refl s

end Sys2Proof.Machine
end

section
/-! What the calls, the slots, the block event and the Call Port do to the notices: `notices_f` says that `f` keeps their laws, by
occurrences alone. -/

namespace Sys2Proof.Machine

open Sys2Proof

/-! ### The calls and the slots' freeing (R4 to R14, R59, R66) -/

theorem notices_changeCall (c : CallRecord) (s : State) : NoticesKept s (changeCall c s) := .occurred rfl

theorem notices_completeClosing (s : State) : NoticesKept s (completeClosing s) := by
  have hcommitted : NoticesKept s (commitAtClosing s) := .of_if (.occurred rfl)
  have hnotices : (completeClosing s).notices
      = (commitAtClosing s).notices.occur Source.callState none 0 (s.call.closeReason.code.zeroExtend 32) := by
    rw [completeClosing_eq, commitAtClosing_notices]
  refine hcommitted.trans (.occurred (Prod.ext hnotices ?_))
  rw [completeClosing_eq, commitAtClosing_fields]

theorem notices_settleClosing (s : State) : NoticesKept s (settleClosing s) := .of_if (notices_completeClosing s)

theorem notices_releaseSlot (k : SlotId) (s : State) : NoticesKept s (releaseSlot k s) := by
  rw [releaseSlot_eq]
  exact .untouched rfl

theorem notices_freeSlot (k : SlotId) (s : State) : NoticesKept s (freeSlot k s) :=
  (notices_releaseSlot k s).trans (notices_settleClosing _)

theorem notices_endJoin (result : Byte) (k : SlotId) (s : State) : NoticesKept s (endJoin result k s) :=
  (notices_freeSlot k s).trans (.occurred rfl)

theorem notices_raiseSwitch (i : VoiceId) (code : Option Byte) (s : State) : NoticesKept s (raiseSwitch i code s) := by
  cases code with
  | none => exact .refl s
  | some _ => exact .occurred rfl

theorem notices_removeFromVoice (i : VoiceId) (k : SlotId) (s : State) : NoticesKept s (removeFromVoice i k s) :=
  NoticesKept.trans (t := s.setVoice i (s.voices[i].remove k).1) (.untouched rfl) (notices_raiseSwitch ..)

theorem notices_leaveStreaming (k : SlotId) (s : State) : NoticesKept s (leaveStreaming k s) := by
  have hmember : ∀ u : State, NoticesKept u (removeMember k u) := fun u =>
    (notices_removeFromVoice 0 k u).trans (notices_removeFromVoice 1 k _)
  refine NoticesKept.trans ?_ (hmember _)
  exact .untouched rfl

theorem notices_enterLeaving (k : SlotId) (s : State) : NoticesKept s (enterLeaving k s) :=
  have hset : ∀ (x : StreamSlot) (u : State), NoticesKept u (u.setSlot k x) := fun _ _ => .untouched rfl
  (notices_leaveStreaming k s).trans (hset _ _)

theorem notices_closeSlot (k : SlotId) (s : State) : NoticesKept s (closeSlot k s) := by
  rcases closeSlot_cases k s with ⟨-, he⟩ | ⟨-, he⟩ | ⟨-, -, he⟩ <;> rw [he]
  · exact .occurred rfl
  · exact notices_enterLeaving k s
  · exact .refl s

theorem notices_enterClosing (reason : CloseReason) (s : State) : NoticesKept s (enterClosing reason s) :=
  ((forEachSlot_of_trans .trans notices_closeSlot s).trans (notices_changeCall _ _)).trans (notices_settleClosing _)

theorem notices_callOpen (body : List Byte) (s : State) : NoticesKept s (callOpen body s).state := by
  unfold callOpen
  split
  · split
    · split
      · exact .occurred rfl
      · exact .refl s
    · exact .refl s
  · exact .refl s

theorem notices_callHold (body : List Byte) (s : State) : NoticesKept s (callHold body s).state := by
  unfold callHold
  split
  · split
    case h_1 => exact notices_changeCall _ s
    all_goals exact .untouched rfl
  · exact .refl s

theorem notices_callResume (body : List Byte) (s : State) : NoticesKept s (callResume body s).state := by
  unfold callResume
  split
  · split
    case h_2 => exact notices_changeCall _ s
    all_goals exact .untouched rfl
  · exact .refl s

theorem notices_abandonOpening (reason : CloseReason) (s : State) : NoticesKept s (abandonOpening reason s) := .occurred rfl

theorem notices_callClose (body : List Byte) (s : State) : NoticesKept s (callClose body s).state := by
  unfold callClose
  split
  · split
    · exact .refl s
    · exact notices_abandonOpening _ s
    · exact notices_enterClosing _ s
    · exact notices_enterClosing _ s
    · exact notices_enterClosing _ s
    · exact .refl s
  · exact .refl s

theorem notices_callGet (body : List Byte) (s : State) : NoticesKept s (callGet body s).state := by
  unfold callGet
  split <;> exact .refl s

theorem notices_lockTimeout (s : State) : NoticesKept s (lockTimeout s) := .of_if (notices_abandonOpening _ s)

/-! ### The block event (R74, R89, R118, R125, R130, R144, R148) -/

theorem notices_convertStream (k : SlotId) (s : State) : NoticesKept s (convertStream k s) :=
  NoticesKept.trans (t := (s.setConv k (conversionOf k s).conv).setQueue k (conversionOf k s).queue) (.untouched rfl)
    (.of_if (.occurred rfl))

theorem notices_formVoices (outputs : StreamOutputs) (s : State) : NoticesKept s (formVoices outputs s) := by
  have hformed : ∀ (i : VoiceId) (u : State), NoticesKept u (formVoiceAt i outputs u) := fun i u =>
    NoticesKept.trans (t := u.setVoice i (formVoice u.queues outputs u.voices[i]).voice) (.untouched rfl)
      (notices_raiseSwitch ..)
  exact (hformed 0 s).trans (hformed 1 _)

theorem notices_commitAtBlock (s : State) : NoticesKept s (commitAtBlock s) := .of_if (.occurred rfl)

theorem notices_accountClamps (n : Nat) (j : SinkId) (terms : List Term) (s : State) :
    NoticesKept s (accountClamps n j terms s) := by
  unfold accountClamps noteClamps
  dsimp only
  split
  · exact .refl s
  · split
    · exact .refl s
    · split
      · exact .occurred rfl
      · exact .untouched rfl

theorem notices_handToWatch (j : SinkId) (block : List Sample) (s : State) : NoticesKept s (handToWatch j block s) := by
  unfold handToWatch
  split
  · exact .occurred rfl
  · exact .untouched rfl

theorem notices_appendToStore (k : SlotId) (b : Block) (s : State) : NoticesKept s (appendToStore k b s) := by
  unfold appendToStore
  split
  · exact .occurred rfl
  · exact .untouched rfl

theorem notices_formUp (n : Nat) (src : Sources) (s : State) : NoticesKept s (formUp n src s) :=
  (notices_accountClamps n 0 _ s).trans (notices_handToWatch 0 _ _)

theorem notices_formEar (n : Nat) (src : Sources) (k : SlotId) (s : State) : NoticesKept s (formEar n src k s) :=
  .of_if ((notices_accountClamps n (earSink k) _ s).trans
    ((notices_appendToStore k _ _).trans (notices_handToWatch (earSink k) _ _)))

/-- A block event keeps the laws of notices stage by stage (R155). -/
theorem notices_formBlock (down : List Sample) (s : State) : NoticesKept s (formBlock down s) :=
  have hmixed : NoticesKept s (beforeMix s) :=
    (forEachSlot_of_trans .trans notices_convertStream s).trans
      ((notices_formVoices _ _).trans (notices_commitAtBlock _))
  have hsinks : NoticesKept (beforeMix s) (formSinks s.blockSamples (blockSources down s) (beforeMix s)) :=
    (notices_formUp _ _ _).trans (forEachSlot_of_trans .trans (notices_formEar _ _) _)
  have hadvanced : ∀ u : State, NoticesKept u (advanceBlock u) := fun _ => .untouched rfl
  (hmixed.trans hsinks).trans (hadvanced _)

/-! ### Syncs, sync loss and free-running (R9 to R11, R152 to R157) -/

theorem notices_takeLock (s : State) : NoticesKept s (takeLock s) := by
  unfold takeLock
  split
  · exact notices_changeCall _ s
  · exact notices_changeCall _ s
  · exact .refl s

theorem notices_huntSync (first second : BitVec 16) (s : State) : NoticesKept s (huntSync first second s) := by
  unfold huntSync
  split
  · unfold lockPort
    exact ((NoticesKept.refl s).withPort _).trans (notices_takeLock _)
  · exact .untouched rfl

theorem notices_syncInStep (first second : BitVec 16) (s : State) : NoticesKept s (syncInStep first second s) := by
  by_cases hi : s.port.wordIndex + 1 < s.blockSamples
  · rw [syncInStep_inside first second hi]
    exact .untouched rfl
  · have hformed : NoticesKept s (formBlock s.port.downGathering (referenced s)) :=
      NoticesKept.trans (t := referenced s) (.untouched rfl) (notices_formBlock _ _)
    rw [syncInStep_last first second (Nat.not_lt.1 hi)]
    exact hformed.withPort _

theorem notices_takeSync (first second : BitVec 16) (s : State) : NoticesKept s (takeSync first second s) := by
  unfold takeSync
  split
  · exact .refl s
  · exact notices_huntSync first second s
  · exact notices_huntSync first second s
  · exact notices_syncInStep first second s

theorem notices_countFreeRun (s : State) : NoticesKept s (countFreeRun s) := by
  unfold countFreeRun
  split
  · split
    · exact NoticesKept.trans (t := { s with call := { s.call with freeRunCount := 200 } }) (.untouched rfl)
        (notices_enterClosing .syncLost _)
    · exact .untouched rfl
  · exact .refl s

theorem notices_freeRunBlock (s : State) : NoticesKept s (freeRunBlock s) := by
  have hformed : NoticesKept s (freeRunFormed s) := (notices_formBlock (silence s) s).withPort _
  rw [freeRunBlock_eq]
  exact hformed.trans (notices_countFreeRun _)

theorem notices_syncLost (s : State) : NoticesKept s (syncLost s) := by
  rw [syncLost_eq]
  split
  · exact .occurred rfl
  · exact .occurred rfl
  · exact .untouched rfl

theorem notices_syncLoss (s : State) : NoticesKept s (syncLoss s) := by
  have hrun := (notices_syncLost s).trans (notices_freeRunBlock (syncLost s))
  refine .of_if ?_
  unfold declareSyncLoss
  dsimp only
  split
  · exact hrun.withPort _
  · split
    · exact hrun
    · exact notices_syncLost s

theorem notices_freeRunningBlockEvent (s : State) : NoticesKept s (freeRunningBlockEvent s) :=
  .of_if (notices_freeRunBlock s)

end Sys2Proof.Machine
end

section
/-! What the requests of the other blocks, joining and leaving, the streams and pairing do to the notices. -/

namespace Sys2Proof.Machine

open Sys2Proof

/-! ### The requests that tell nothing but their reply -/

theorem notices_hello (body : List Byte) (s : State) : NoticesKept s (hello body s).state := by
  unfold hello
  split <;> exact .refl s

/-- RESET_SOFT is noted in the Control Port, whose buffer and queues stand (R176). -/
theorem notices_resetSoft (body : List Byte) (s : State) : NoticesKept s (resetSoft body s).state := by
  unfold resetSoft
  split
  · exact ⟨rfl, id, id⟩
  · exact .refl s

theorem notices_rosterPut (body : List Byte) (s : State) : NoticesKept s (rosterPut body s).state := by
  rcases rosterPut_cases body s with ⟨st, he⟩ | ⟨i, c, -, -, -, he⟩ <;> rw [he] <;> exact .untouched rfl

theorem notices_rosterGet (body : List Byte) (s : State) : NoticesKept s (rosterGet body s).state := by
  unfold rosterGet
  split
  · split <;> exact .refl s
  · exact .refl s

theorem notices_rosterDrop (body : List Byte) (s : State) : NoticesKept s (rosterDrop body s).state := by
  unfold rosterDrop
  split
  · split
    · split <;> exact .untouched rfl
    · exact .refl s
  · exact .refl s

theorem notices_queueSet (body : List Byte) (s : State) : NoticesKept s (queueSet body s).state := by
  unfold queueSet
  split
  · dsimp only
    split
    · exact .untouched rfl
    · split <;> exact .untouched rfl
  · exact .refl s

theorem notices_statsGet (body : List Byte) (s : State) : NoticesKept s (statsGet body s).state := by
  unfold statsGet
  split
  · split <;> exact .refl s
  · exact .refl s

theorem notices_mixSet (body : List Byte) (s : State) : NoticesKept s (mixSet body s).state := by
  unfold mixSet
  split
  · split <;> exact .untouched rfl
  · exact .refl s

/-- MIX_COMMIT copied at once is told (R124). -/
theorem notices_mixCommit (body : List Byte) (s : State) : NoticesKept s (mixCommit body s).state := by
  unfold mixCommit
  split
  · split
    · exact .occurred rfl
    · exact .untouched rfl
  · exact .refl s

theorem notices_mixGet (body : List Byte) (s : State) : NoticesKept s (mixGet body s).state := by
  unfold mixGet
  split
  · split <;> exact .refl s
  · exact .refl s

theorem notices_sinkSet (body : List Byte) (s : State) : NoticesKept s (sinkSet body s).state := by
  unfold sinkSet
  split
  · split <;> exact .untouched rfl
  · exact .refl s

theorem notices_voiceSet (body : List Byte) (s : State) : NoticesKept s (voiceSet body s).state := by
  unfold voiceSet
  split
  · split <;> exact .untouched rfl
  · exact .refl s

theorem notices_watchSet (body : List Byte) (s : State) : NoticesKept s (watchSet body s).state := by
  unfold watchSet
  split
  · split <;> exact .untouched rfl
  · exact .refl s

/-! ### Joining and leaving (R60 to R69) -/

theorem notices_earJoin (body : List Byte) (s : State) : NoticesKept s (earJoin body s).state := by
  unfold earJoin
  split
  · split
    · split
      · exact .refl s
      · split
        · exact .refl s
        · exact .refl s
        · exact .refl s
        · split
          · split <;> exact .untouched rfl
          · exact .refl s
    · exact .refl s
  · exact .refl s

theorem notices_enterStreaming (k : SlotId) (d : Declared) (s : State) : NoticesKept s (enterStreaming k d s) := by
  rw [enterStreaming_eq]
  exact .occurred rfl

theorem notices_joinAck (h : AirHeader) (accepts : Bool) (proof : Key) (s : State) :
    NoticesKept s (joinAck h accepts proof s) := by
  unfold joinAck
  split
  · unfold answerJoin
    split
    · split
      · split
        · exact notices_enterStreaming _ _ s
        · exact notices_endJoin 4 _ s
      · exact .refl s
    · exact notices_endJoin 3 _ s
  · exact .refl s

theorem notices_joinNoAnswer (k : SlotId) (s : State) : NoticesKept s (joinNoAnswer k s) := .of_if (notices_endJoin 5 k s)

theorem notices_earLeave (body : List Byte) (s : State) : NoticesKept s (earLeave body s).state := by
  unfold earLeave
  split
  · split
    · exact .refl s
    · split
      · exact .refl s
      · exact notices_endJoin 6 _ s
      · exact notices_enterLeaving _ s
      · exact .refl s
  · exact .refl s

theorem notices_leaveAck (h : AirHeader) (s : State) : NoticesKept s (leaveAck h s) := by
  unfold leaveAck
  split
  · exact notices_freeSlot _ s
  · exact .refl s

theorem notices_leaveUnanswered (k : SlotId) (s : State) : NoticesKept s (leaveUnanswered k s) := .of_if (notices_freeSlot k s)

theorem notices_linkLoss (k : SlotId) (s : State) : NoticesKept s (linkLoss k s) :=
  have hended : NoticesKept s (endStream k s) := .of_if (notices_leaveStreaming k s)
  .of_if ((hended.trans (notices_freeSlot k _)).trans (.occurred rfl))

/-! ### The receive queues (R65, R82 to R107) -/

theorem notices_acceptArrival (k : SlotId) (e : QueueEntry) (s : State) : NoticesKept s (acceptArrival k e s) := by
  rw [acceptArrival_eq]
  by_cases hfull : 8 ≤ s.queues[k].entries.length
  · rw [if_pos hfull]
    exact .occurred rfl
  · rw [if_neg hfull]
    exact .untouched rfl

theorem notices_takeArrival (k : SlotId) (e : QueueEntry) (s : State) : NoticesKept s (takeArrival k e s) := by
  unfold takeArrival
  split
  · exact .refl s
  · split
    · exact .occurred rfl
    · split
      · exact .occurred rfl
      · exact notices_acceptArrival k e s

theorem notices_takeUp (h : AirHeader) (f : UpFrame) (s : State) : NoticesKept s (takeUp h f s) := by
  unfold takeUp
  split
  · next k _ _ =>
    rw [noteHeard_eq]
    exact NoticesKept.trans (t := upHeard k f s) (.untouched rfl) (notices_takeArrival ..)
  · exact .refl s

theorem notices_fillTimeout (k : SlotId) (s : State) : NoticesKept s (fillTimeout k s) := .of_if (.untouched rfl)

theorem notices_driftWindowClose (k : SlotId) (s : State) : NoticesKept s (driftWindowClose k s) := by
  refine .of_if ?_
  unfold closeWindowWith raiseHold
  split
  · exact .occurred rfl
  · exact .untouched rfl

/-! ### Pairing (R35 to R49) -/

theorem notices_failPairing (reason : FailReason) (s : State) : NoticesKept s (failPairing reason s) := by
  rw [failPairing_spec reason s]
  exact .occurred rfl

theorem notices_pairStart (body : List Byte) (s : State) : NoticesKept s (pairStart body s).state := by
  unfold pairStart
  split
  · split
    · split <;> exact .untouched rfl
    · exact .refl s
  · exact .refl s

theorem notices_pairPick (body : List Byte) (s : State) : NoticesKept s (pairPick body s).state := by
  unfold pairPick
  split
  · split
    · split
      · exact .refl s
      · split
        · exact .refl s
        · split
          · exact .refl s
          · split <;> exact .untouched rfl
    · exact .refl s
  · exact .refl s

theorem notices_pairConfirm (body : List Byte) (s : State) : NoticesKept s (pairConfirm body s).state := by
  unfold pairConfirm
  split
  · split
    · split <;> exact .untouched rfl
    · exact .refl s
  · exact .refl s

theorem notices_pairCancel (body : List Byte) (s : State) : NoticesKept s (pairCancel body s).state := by
  unfold pairCancel
  split
  · split
    · exact .refl s
    · refine .of_if ?_
      split
      · exact notices_failPairing .cancelled s
      · exact .untouched rfl
  · exact .refl s

theorem notices_ask (h : AirHeader) (declared : RawDeclared) (quality : Byte) (s : State) :
    NoticesKept s (ask h declared quality s) := by
  refine .of_if ?_
  split
  · unfold raiseCandidate
    split
    · exact .occurred rfl
    · exact .untouched rfl
  · exact .refl s

theorem notices_accept (h : AirHeader) (earValue : PublicValue) (s : State) : NoticesKept s (accept h earValue s) :=
  .of_if (.untouched rfl)

theorem notices_confirm (h : AirHeader) (s : State) : NoticesKept s (confirm h s) := .of_if (.untouched rfl)

theorem notices_reject (h : AirHeader) (s : State) : NoticesKept s (reject h s) := .of_if (notices_failPairing _ s)

theorem notices_bound (h : AirHeader) (s : State) : NoticesKept s (bound h s) := by
  refine .of_if ?_
  split
  · unfold settleBind
    split
    · exact .untouched rfl
    · exact .untouched rfl
    · exact .occurred rfl
    · exact .occurred rfl
  · exact .refl s

theorem notices_candidateExpiry (s : State) : NoticesKept s (candidateExpiry s) := .of_if (.untouched rfl)

theorem notices_windowEnd (s : State) : NoticesKept s (windowEnd s) := .of_if (notices_failPairing _ s)

theorem notices_offerTimeout (s : State) : NoticesKept s (offerTimeout s) := by
  refine .of_if ?_
  split
  · exact .untouched rfl
  · exact NoticesKept.trans (t := pairEvent 4 FailReason.noAnswer.code (s.setPair s.pair.failPick)) (.occurred rfl)
      (notices_windowEnd _)

theorem notices_keyComputationDone (s : State) : NoticesKept s (keyComputationDone s) := by
  unfold keyComputationDone
  split
  · split
    · exact .occurred rfl
    · exact .untouched rfl
  · exact .refl s

theorem notices_compareTimeout (s : State) : NoticesKept s (compareTimeout s) := .of_if (.untouched rfl)

theorem notices_turnFirstHalfEnd (s : State) : NoticesKept s (turnFirstHalfEnd s) := by
  have hended : ∀ u : State, NoticesKept u (endAbandon u) := fun u => by
    unfold endAbandon
    split
    · exact .of_if (notices_failPairing _ u)
    · exact .refl u
  exact .of_if (NoticesKept.trans (t := passToOffset 2000 s) (.untouched rfl) (hended _))

theorem notices_bindNoAnswer (s : State) : NoticesKept s (bindNoAnswer s) :=
  .of_if (NoticesKept.trans (t := passToOffset 4000 s) (.untouched rfl) (notices_failPairing _ _))

end Sys2Proof.Machine
end

section
/-! What the slot plan does to the notices, what every command does to the laws of the host's side, and what every step does. -/

namespace Sys2Proof.Machine

open Sys2Proof

/-! ### The slots of the interval (R54, R70 to R75) -/

theorem notices_markRetry (k : SlotId) (s : State) : NoticesKept s (markRetry k s) := .of_if (.untouched rfl)

theorem notices_grantSpare (s : State) : NoticesKept s (grantSpare s) := by
  unfold grantSpare
  split <;> exact .untouched rfl

theorem notices_denyRetry (code : Byte) (k : SlotId) (s : State) : NoticesKept s (denyRetry code k s) :=
  .of_if (.occurred rfl)

theorem notices_sendDown (k : SlotId) (s : State) : NoticesKept s (sendDown k s) := by
  unfold sendDown
  split
  · exact .untouched rfl
  · exact .occurred rfl
  · exact .occurred rfl

theorem notices_startDownlink (k : SlotId) (s : State) : NoticesKept s (startDownlink k s) := by
  unfold startDownlink
  split
  · exact .refl s
  · exact .untouched rfl
  · exact NoticesKept.trans (t := setUse (.downlink k) s) (.untouched rfl) (notices_sendDown k _)
  · exact .untouched rfl

theorem notices_startUplink (k : SlotId) (s : State) : NoticesKept s (startUplink k s) := by
  unfold startUplink
  split <;> exact .untouched rfl

theorem notices_startTurn (s : State) : NoticesKept s (startTurn s) := by
  unfold startTurn sendTurnFrame
  split
  · split
    case h_3 => split <;> exact .untouched rfl
    all_goals exact .untouched rfl
  · exact .untouched rfl

theorem notices_startSlotNine (s : State) : NoticesKept s (startSlotNine s) := by
  unfold startSlotNine
  split
  · exact (notices_grantSpare s).trans (forEachSlot_of_trans .trans (notices_denyRetry 1) _)
  · exact (notices_startTurn s).trans (forEachSlot_of_trans .trans (notices_denyRetry 2) _)

theorem notices_runSlot (n : Fin 10) (s : State) : NoticesKept s (runSlot n s) := by
  match n with
  | 0 => exact notices_startDownlink 0 s
  | 1 => exact notices_startUplink 0 s
  | 2 => exact (notices_markRetry 0 s).trans (notices_startDownlink 1 _)
  | 3 => exact notices_startUplink 1 s
  | 4 => exact (notices_markRetry 1 s).trans (notices_startDownlink 2 _)
  | 5 => exact notices_startUplink 2 s
  | 6 => exact (notices_markRetry 2 s).trans (notices_startDownlink 3 _)
  | 7 => exact notices_startUplink 3 s
  | 8 => exact (notices_markRetry 3 s).trans (notices_grantSpare _)
  | 9 => exact notices_startSlotNine s

/-! ### The interval's end (R53) -/

theorem notices_finishSlot (k : SlotId) (s : State) : NoticesKept s (finishSlot k s) :=
  (notices_leaveUnanswered k s).trans ((notices_joinNoAnswer k _).trans ((notices_linkLoss k _).trans
    ((notices_driftWindowClose k _).trans (notices_fillTimeout k _))))

theorem notices_finishInterval (s : State) : NoticesKept s (finishInterval s) :=
  (forEachSlot_of_trans .trans notices_finishSlot s).trans ((notices_offerTimeout _).trans ((notices_compareTimeout _).trans
    ((notices_keyComputationDone _).trans ((notices_windowEnd _).trans (notices_candidateExpiry _)))))

theorem notices_airIntervalEnd (s : State) : NoticesKept s (airIntervalEnd s) :=
  have hfinished : NoticesKept s (if s.air.slot = none then finishInterval s else s) := .of_if (notices_finishInterval s)
  ((hfinished.trans (notices_turnFirstHalfEnd _)).trans (notices_bindNoAnswer _)).trans (.untouched rfl)

theorem notices_slotStart (s : State) : NoticesKept s (slotStart s) := by
  unfold slotStart
  split
  · next n _ =>
    have hfinished : NoticesKept s (if n = 0 then finishInterval s else s) := .of_if (notices_finishInterval s)
    have hbegun : ∀ u : State, NoticesKept u (beginSlot n u) := fun _ => .untouched rfl
    exact (hfinished.trans (hbegun _)).trans (notices_runSlot n _)
  · exact .refl s

/-! ### Every command, and every step -/

/-- Every command keeps the laws of the host's side. -/
theorem host_exec (c : Instr) (s : State) : ∃ t : State, exec c s = .next t ∧ HostKept s t := by
  have hpassed : ∀ elapsed : Tick, NoticesKept s (passTime elapsed s) := fun _ => .untouched rfl
  cases c with
  | powerOnReset => exact ⟨_, rfl, host_resetPart s⟩
  | hello tag body => exact ⟨_, rfl, host_takeRequest _ tag body (notices_hello body) s⟩
  | resetSoft tag body => exact ⟨_, rfl, host_takeRequest _ tag body (notices_resetSoft body) s⟩
  | softResetPerformed => exact ⟨_, rfl, host_softReset s⟩
  | callOpen tag body => exact ⟨_, rfl, host_takeRequest _ tag body (notices_callOpen body) s⟩
  | callHold tag body => exact ⟨_, rfl, host_takeRequest _ tag body (notices_callHold body) s⟩
  | callResume tag body => exact ⟨_, rfl, host_takeRequest _ tag body (notices_callResume body) s⟩
  | callClose tag body => exact ⟨_, rfl, host_takeRequest _ tag body (notices_callClose body) s⟩
  | callGet tag body => exact ⟨_, rfl, host_takeRequest _ tag body (notices_callGet body) s⟩
  | rosterPut tag body => exact ⟨_, rfl, host_takeRequest _ tag body (notices_rosterPut body) s⟩
  | rosterGet tag body => exact ⟨_, rfl, host_takeRequest _ tag body (notices_rosterGet body) s⟩
  | rosterDrop tag body => exact ⟨_, rfl, host_takeRequest _ tag body (notices_rosterDrop body) s⟩
  | pairStart tag body => exact ⟨_, rfl, host_takeRequest _ tag body (notices_pairStart body) s⟩
  | pairPick tag body => exact ⟨_, rfl, host_takeRequest _ tag body (notices_pairPick body) s⟩
  | pairConfirm tag body => exact ⟨_, rfl, host_takeRequest _ tag body (notices_pairConfirm body) s⟩
  | pairCancel tag body => exact ⟨_, rfl, host_takeRequest _ tag body (notices_pairCancel body) s⟩
  | earJoin tag body => exact ⟨_, rfl, host_takeRequest _ tag body (notices_earJoin body) s⟩
  | earLeave tag body => exact ⟨_, rfl, host_takeRequest _ tag body (notices_earLeave body) s⟩
  | queueSet tag body => exact ⟨_, rfl, host_takeRequest _ tag body (notices_queueSet body) s⟩
  | mixSet tag body => exact ⟨_, rfl, host_takeRequest _ tag body (notices_mixSet body) s⟩
  | mixCommit tag body => exact ⟨_, rfl, host_takeRequest _ tag body (notices_mixCommit body) s⟩
  | mixGet tag body => exact ⟨_, rfl, host_takeRequest _ tag body (notices_mixGet body) s⟩
  | voiceSet tag body => exact ⟨_, rfl, host_takeRequest _ tag body (notices_voiceSet body) s⟩
  | watchSet tag body => exact ⟨_, rfl, host_takeRequest _ tag body (notices_watchSet body) s⟩
  | sinkSet tag body => exact ⟨_, rfl, host_takeRequest _ tag body (notices_sinkSet body) s⟩
  | statsGet tag body => exact ⟨_, rfl, host_takeRequest _ tag body (notices_statsGet body) s⟩
  | noticeRoute tag body => exact ⟨_, rfl, host_takeRequest _ tag body (notices_noticeRoute body) s⟩
  | noticeMask tag body => exact ⟨_, rfl, host_takeRequest _ tag body (notices_noticeMask body) s⟩
  | noticeAck tag body => exact ⟨_, rfl, host_takeRequest _ tag body (notices_noticeAck body) s⟩
  | noticePoll tag body => exact ⟨_, rfl, host_takeRequest _ tag body (notices_noticePoll body) s⟩
  | unknownKindRequest kind tag body => exact ⟨_, rfl, host_unknownKindRequest kind tag body s⟩
  | controlPortByte elapsed byte => exact ⟨_, rfl, (hpassed elapsed).hostKept.trans (host_receiveByte byte _)⟩
  | byteTimeout elapsed => exact ⟨_, rfl, (hpassed elapsed).hostKept.trans (host_byteTimeout _)⟩
  | frameToRequest => exact ⟨_, rfl, host_queueFrame s⟩
  | transmitStart hostReady => exact ⟨_, rfl, host_transmitStart hostReady s⟩
  | transmitDone => exact ⟨_, rfl, host_transmitDone s⟩
  | airIntervalEnd => exact ⟨_, rfl, (notices_airIntervalEnd s).hostKept⟩
  | slotStart => exact ⟨_, rfl, (notices_slotStart s).hostKept⟩
  | ask h declared quality => exact ⟨_, rfl, (notices_ask h declared quality s).hostKept⟩
  | accept h earValue => exact ⟨_, rfl, (notices_accept h earValue s).hostKept⟩
  | confirm h => exact ⟨_, rfl, (notices_confirm h s).hostKept⟩
  | reject h => exact ⟨_, rfl, (notices_reject h s).hostKept⟩
  | bound h => exact ⟨_, rfl, (notices_bound h s).hostKept⟩
  | joinAck h accepts proof => exact ⟨_, rfl, (notices_joinAck h accepts proof s).hostKept⟩
  | leaveAck h => exact ⟨_, rfl, (notices_leaveAck h s).hostKept⟩
  | up h frame => exact ⟨_, rfl, (notices_takeUp h frame s).hostKept⟩
  | pairTurnFirstHalfEnd => exact ⟨_, rfl, (notices_turnFirstHalfEnd s).hostKept⟩
  | bindNoAnswer => exact ⟨_, rfl, (notices_bindNoAnswer s).hostKept⟩
  | candidateExpiry => exact ⟨_, rfl, (notices_candidateExpiry s).hostKept⟩
  | windowEnd => exact ⟨_, rfl, (notices_windowEnd s).hostKept⟩
  | offerTimeout => exact ⟨_, rfl, (notices_offerTimeout s).hostKept⟩
  | keyComputationDone => exact ⟨_, rfl, (notices_keyComputationDone s).hostKept⟩
  | compareTimeout => exact ⟨_, rfl, (notices_compareTimeout s).hostKept⟩
  | joinNoAnswer k => exact ⟨_, rfl, (notices_joinNoAnswer k s).hostKept⟩
  | leaveUnanswered k => exact ⟨_, rfl, (notices_leaveUnanswered k s).hostKept⟩
  | linkLoss k => exact ⟨_, rfl, (notices_linkLoss k s).hostKept⟩
  | fillTimeout k => exact ⟨_, rfl, (notices_fillTimeout k s).hostKept⟩
  | driftWindowClose k => exact ⟨_, rfl, (notices_driftWindowClose k s).hostKept⟩
  | sync elapsed first second => exact ⟨_, rfl, ((hpassed elapsed).trans (notices_takeSync first second _)).hostKept⟩
  | syncLoss elapsed => exact ⟨_, rfl, ((hpassed elapsed).trans (notices_syncLoss _)).hostKept⟩
  | freeRunningBlockEvent elapsed =>
    exact ⟨_, rfl, ((hpassed elapsed).trans (notices_freeRunningBlockEvent _)).hostKept⟩
  | lockTimeout elapsed => exact ⟨_, rfl, ((hpassed elapsed).trans (notices_lockTimeout _)).hostKept⟩

/-- A command that goes on has kept the laws of the host's side. -/
theorem host_of_exec {c : Instr} {s t : State} (h : exec c s = .next t) : HostKept s t := by
  obtain ⟨u, hu, hkept⟩ := host_exec c s
  cases hu.symm.trans h
  exact hkept

/-- Every step keeps the laws of the host's side. -/
theorem host_of_step {s t : State} (h : step s = .next t) : HostKept s t := by
  unfold step at h
  split at h
  · next c rest hp => exact HostKept.trans (t := s.withQueue rest) ⟨id, id, id, id⟩ (host_of_exec h)
  · unfold idleStep at h
    split at h
    · exact host_of_exec h
    · cases h
      exact ⟨id, id, id, id⟩

end Sys2Proof.Machine

open Sys2Proof Sys2Proof.Machine

/-- Settles O57: every command is made of operations each of which keeps the four laws; an answer to a request moves no queue of the
Control Port, so that its reply finds the place that the taking of the request found. -/
theorem stepsKeepHostLaws : Obligations.StepsKeepHostLaws := fun _ _ h =>
  have hkept := host_of_step h
  ⟨hkept.attention, hkept.reports, hkept.flow, hkept.queues⟩
end

section
/-! Occurrences, NOTICE_ROUTE, NOTICE_MASK and NOTICE_POLL (R160, R162 to R165, R168). -/

namespace Sys2Proof.Machine

open Sys2Proof

/-! ### Occurrences (R160) -/

/-- An index joins a set as its bit (R173). -/
theorem IndexSet.with_eq (k : Nat) (set : IndexSet) : IndexSet.with k set = set ||| (1#8 <<< k) := by
  have hbit : BitVec.ofNat 8 (2 ^ k) = 1#8 <<< k := by
    apply BitVec.eq_of_toNat_eq
    simp [Nat.shiftLeft_eq]
  rw [IndexSet.with, hbit]

/-- What an occurrence makes of its source's record, with the index as a bit (R160). -/
theorem SourceRecord.occur_eq (index : Option (Fin 5)) (code : Byte) (value : Count32) (r : SourceRecord) :
    r.occur (index.map Fin.val) code value
      = ⟨true, saturatingSucc 255 r.occurrences,
        (match index with
          | some k => r.indexSet ||| (1#8 <<< k.val)
          | none => r.indexSet), code, value⟩ := by
  cases index with
  | none => rfl
  | some k => simp only [SourceRecord.occur, Option.map_some, IndexSet.with_eq]

/-! ### NOTICE_ROUTE (R162) -/

/-- A source is listed somewhere when an outstanding report has an item for it (R162). -/
theorem listedSomewhere_iff (src : SourceId) (n : Notices) :
    listedSomewhere src n = true
      ↔ ∃ (c : ClassId) (report : List Listed), n.outstanding[c] = some report ∧ ∃ l ∈ report, l.source = src := by
  refine List.any_eq_true.trans ?_
  simp only [List.mem_finRange, true_and, reportLists_iff]

section
variable {x y z : Byte} {s : State} {src : SourceId} {c : ClassId}

/-- NOTICE_ROUTE of another source or class is refused (R162). -/
theorem noticeRoute_of_le (h : 15 ≤ x.toNat ∨ 4 ≤ y.toNat) : noticeRoute [x, y] s = refuse .badArg s := by
  simp only [noticeRoute]
  split
  · next src c hsrc hc =>
    rcases h with h | h
    · cases (indexOfByte_of_le h).symm.trans hsrc
    · cases (indexOfByte_of_le h).symm.trans hc
  · rfl

theorem noticeRoute_of_listed (hsrc : indexOfByte 15 x = some src) (hc : indexOfByte 4 y = some c)
    (h : listedSomewhere src s.notices = true) : noticeRoute [x, y] s = refuse .busy s := by
  simp only [noticeRoute, hsrc, hc, if_pos h]

theorem noticeRoute_of_unlisted (hsrc : indexOfByte 15 x = some src) (hc : indexOfByte 4 y = some c)
    (h : ¬listedSomewhere src s.notices = true) :
    noticeRoute [x, y] s
      = answerOk [] { s with notices := settleAttention { s.notices with route := s.notices.route.set src c } } := by
  simp only [noticeRoute, hsrc, hc, if_neg h]

/-! ### NOTICE_MASK (R163) -/

/-- NOTICE_MASK of another class or another setting is refused (R163). -/
theorem noticeMask_of_le (h : 4 ≤ x.toNat ∨ 2 ≤ y.toNat ∨ 2 ≤ z.toNat) : noticeMask [x, y, z] s = refuse .badArg s := by
  simp only [noticeMask]
  split
  · next c report wake hc hreport hwake =>
    rcases h with h | h | h
    · cases (indexOfByte_of_le h).symm.trans hc
    · cases (switchOfByte_of_le h).symm.trans hreport
    · cases (switchOfByte_of_le h).symm.trans hwake
  · rfl

theorem noticeMask_of_switches (c : ClassId) (report wake : Bool) (s : State) :
    noticeMask [BitVec.ofNat 8 c.val, switchByte report, switchByte wake] s
      = answerOk [] { s with notices := settleAttention { s.notices with classes := s.notices.classes.set c ⟨report, wake⟩ } } := by
  simp only [noticeMask, indexOfByte_ofNat 4 c (by decide), switchOfByte_switchByte]

/-! ### NOTICE_POLL (R164, R165) -/

theorem noticePoll_of_le (h : 4 ≤ x.toNat) : noticePoll [x] s = refuse .badArg s := by
  simp only [noticePoll, indexOfByte_of_le h]

/-- NOTICE_POLL of a class whose report is outstanding is refused (R165). -/
theorem noticePoll_of_outstanding (hc : indexOfByte 4 x = some c) (h : s.notices.outstanding[c] ≠ none) :
    noticePoll [x] s = refuse .badState s := by
  simp only [noticePoll, hc]
  exact if_neg fun hnone => h (beq_iff_eq.1 hnone)

/-- NOTICE_POLL of a class with no asserted source answers an empty report, and makes none (R165). -/
theorem noticePoll_of_silent (hc : indexOfByte 4 x = some c) (h : s.notices.outstanding[c] = none)
    (hsources : assertedIn c s.notices = []) : noticePoll [x] s = answerOk [BitVec.ofNat 8 c.val, 0] s := by
  simp only [noticePoll, hc, h, beq_self_eq_true, if_true, reportBody, hsources]
  rfl

/-- NOTICE_POLL of a class with an asserted source makes its report and answers with it (R164, R165). -/
theorem noticePoll_of_asserted (hc : indexOfByte 4 x = some c) (h : s.notices.outstanding[c] = none)
    (hsources : assertedIn c s.notices ≠ []) :
    noticePoll [x] s = answerOk (reportBody c s.notices) { s with notices := makeReport c s.notices } := by
  simp only [noticePoll, hc, h, beq_self_eq_true, if_true]
  exact if_neg fun hempty => hsources (List.isEmpty_iff.1 hempty)

end

/-- The body of a report, byte by byte (R164, Table 11.4). -/
theorem reportBody_eq (c : ClassId) (n : Notices) : reportBody c n = reportBytes c n := by
  have hrecord : ∀ (src : SourceId) (r : SourceRecord), recordBytes src r
      = [BitVec.ofNat 8 src.val, BitVec.ofNat 8 r.occurrences, r.indexSet, r.latestCode, r.latestValue.extractLsb' 0 8,
        r.latestValue.extractLsb' 8 8, r.latestValue.extractLsb' 16 8, r.latestValue.extractLsb' 24 8] := fun src r => by
    rw [recordBytes, bytes4_toNat]
  simp only [reportBody, hrecord]
  rfl

end Sys2Proof.Machine

open Sys2Proof Sys2Proof.Machine

/-- Settles O50: an occurrence record by record; a route by whether a report lists the source, a mask by its three bytes, and each with
the attention line settled over what it writes. -/
theorem occurrencesRoutesAndMasks : Obligations.OccurrencesRoutesAndMasks := by
  refine ⟨fun src index code value n m hm => ?_, fun tag x y z s => ⟨fun ht => ⟨fun h => ?_, fun src cls hx hy => ?_⟩,
    fun ht => ⟨fun h => ?_, fun cls report wake hx hy hz => ?_⟩⟩⟩
  · subst hm
    obtain ⟨-, hroute, hclasses, hends, hatn⟩ := occur_spec src (index.map Fin.val) code value n
    exact ⟨(Notices.occur_record ..).trans (SourceRecord.occur_eq ..), fun other h => Notices.occur_record_other h .., hroute,
      hclasses, hends, hatn⟩
  · exact congrArg Host.Outcome.next (takeRequest_refused ht (noticeRoute_of_le h))
  · have hsrc : indexOfByte 15 x = some src := hx ▸ indexOfByte_ofNat 15 src (by decide)
    have hcls : indexOfByte 4 y = some cls := hy ▸ indexOfByte_ofNat 4 cls (by decide)
    have hsomewhere := listedSomewhere_iff src s.notices
    refine ⟨fun hlisted => ?_, fun hunlisted => ?_⟩
    · exact congrArg Host.Outcome.next
        (takeRequest_refused ht (noticeRoute_of_listed (s := dropRequest s) hsrc hcls (hsomewhere.2 hlisted)))
    · have hnot : ¬listedSomewhere src s.notices = true := fun h => by
        obtain ⟨c, report, hreport, l, hl, hsource⟩ := hsomewhere.1 h
        exact hunlisted c report hreport l hl hsource
      exact ⟨_, attentionLevel_iff { s.notices with route := s.notices.route.set src cls }, congrArg Host.Outcome.next
        (takeRequest_answered
          (t := { s with notices := settleAttention { s.notices with route := s.notices.route.set src cls } })
          ht (noticeRoute_of_unlisted (s := dropRequest s) hsrc hcls hnot))⟩
  · exact congrArg Host.Outcome.next (takeRequest_refused ht (noticeMask_of_le h))
  · subst hx hy hz
    exact ⟨_, attentionLevel_iff { s.notices with classes := s.notices.classes.set cls ⟨report, wake⟩ }, congrArg Host.Outcome.next
      (takeRequest_answered
        (t := { s with notices := settleAttention { s.notices with classes := s.notices.classes.set cls ⟨report, wake⟩ } })
        ht (noticeMask_of_switches cls report wake (dropRequest s)))⟩

/-- Settles O51, by whether the class has a report outstanding and, where it has none, by whether a source of it is asserted. -/
theorem pollMakesReport : Obligations.PollMakesReport := by
  refine fun tag x s ht => ⟨fun h => ?_, fun cls hx => ?_⟩
  · exact congrArg Host.Outcome.next (takeRequest_refused ht (noticePoll_of_le h))
  · have hcls := indexOfByte_ofNat 4 cls (by decide)
    subst hx
    refine ⟨fun h => ?_, fun hnone => ⟨fun hsilent => ?_, fun hsources => ⟨makeReport cls s.notices, makeReport_spec cls s.notices, ?_⟩⟩⟩
    · exact congrArg Host.Outcome.next (takeRequest_refused ht (noticePoll_of_outstanding (s := dropRequest s) hcls h))
    · exact congrArg Host.Outcome.next
        (takeRequest_answered ht (noticePoll_of_silent (s := dropRequest s) hcls hnone hsilent))
    · rw [← reportBody_eq]
      exact congrArg Host.Outcome.next (takeRequest_answered (t := { s with notices := makeReport cls s.notices }) ht
        (noticePoll_of_asserted (s := dropRequest s) hcls hnone hsources))
end

section
/-! The transmitter: what it starts, and what follows a frame sent (R164, R175, R176). -/

namespace Sys2Proof.Machine

open Sys2Proof

/-- The start frame is the identity body under kind 0x41 and tag 0, byte by byte (Table 11.1, R176). -/
theorem startFrame_frame :
    startFrame.frame = [0xC3, 12, 0, 0x41, 0, 0x45, 0x57, 0x34, 0x34, 1, 8, 4, 8, 2, 15, 0x89] := by decide

/-! ### Whether a frame may start (R175, R176) -/

theorem mayStart_iff (hostReady : Bool) (c : ControlPort) :
    mayStart hostReady c = true ↔ hostReady = true ∧ c.sending = none ∧ c.softReset ≠ .due := by
  simp only [mayStart, Bool.and_eq_true, Option.isNone_iff_eq_none, bne_iff_ne, and_assoc]

theorem transmitStart_of_not_mayStart {hostReady : Bool} {s : State}
    (h : hostReady = false ∨ s.control.sending ≠ none ∨ s.control.softReset = .due) : transmitStart hostReady s = s := by
  refine if_neg fun hmay => ?_
  obtain ⟨hready, hidle, hreset⟩ := (mayStart_iff ..).1 hmay
  rcases h with h | h | h
  · cases h.symm.trans hready
  · exact h hidle
  · exact hreset h

section
variable {s : State}

theorem transmitStart_of_mayStart (hidle : s.control.sending = none) (hreset : s.control.softReset ≠ .due) :
    transmitStart true s = chooseFrame s :=
  if_pos ((mayStart_iff ..).2 ⟨rfl, hidle, hreset⟩)

/-! ### The choice of the next frame (R164, R175) -/

theorem chooseFrame_of_owed (h : s.control.startOwed = true) : chooseFrame s = sendStart s := if_pos h

theorem chooseFrame_of_reply {m : Message} {rest : List Message} (h : s.control.startOwed = false)
    (hr : s.control.replies = m :: rest) : chooseFrame s = send .reply m s := by
  simp only [chooseFrame, h, hr, Bool.false_eq_true, if_false]

/-- The report of a class, made and sent, with its body byte by byte (R164, R175). -/
theorem sendReport_eq (c : ClassId) (s : State) :
    sendReport c s = { s with
      notices := makeReport c s.notices
      control := { s.control with sending := some ⟨.report, (⟨0x40, 0, reportBytes c s.notices⟩ : Message).frame⟩ } } := by
  rw [sendReport, reportBody_eq]
  rfl

/-- With no start frame owed and no reply waiting, the lowest eligible class has its report sent (R164, R175). -/
theorem chooseFrame_of_eligible {c : ClassId} (h : s.control.startOwed = false) (hr : s.control.replies = [])
    (hc : eligible c s.notices = true) (hlow : ∀ lower : ClassId, lower < c → eligible lower s.notices = false) :
    chooseFrame s = sendReport c s := by
  have hfound : lowestEligible s.notices = some c := find?_finRange_of_lowest hc hlow
  simp only [chooseFrame, h, hr, hfound, Bool.false_eq_true, if_false]

/-- With nothing to send the transmitter stays idle (R175). -/
theorem chooseFrame_of_nothing (h : s.control.startOwed = false) (hr : s.control.replies = [])
    (hnone : ∀ c : ClassId, eligible c s.notices = false) : chooseFrame s = s := by
  have hfound : lowestEligible s.notices = none := find?_finRange_of_none hnone
  simp only [chooseFrame, h, hr, hfound, Bool.false_eq_true, if_false]

/-! ### A frame sent (R175, R176) -/

theorem transmitDone_of_idle (h : s.control.sending = none) : transmitDone s = s := by
  simp only [transmitDone, h]

theorem transmitDone_of_other {x : Sending} (h : s.control.sending = some x) (hx : x.what ≠ .reply) :
    transmitDone s = s.setControl { s.control with sending := none } := by
  simp only [transmitDone, h]
  split
  · rfl
  · rfl
  · next hreply => exact absurd hreply hx

theorem transmitDone_of_reply {x : Sending} (h : s.control.sending = some x) (hx : x.what = .reply) :
    transmitDone s = s.setControl { s.control with sending := none, replies := s.control.replies.tail }.settleReset := by
  simp only [transmitDone, h, hx]

end

/-- The reset is due once the reply queue is empty after a RESET_SOFT, whose own reply was the last (R176). -/
theorem settleReset_tail (c : ControlPort) :
    { c with sending := none, replies := c.replies.tail }.settleReset
      = { c with
        sending := none, replies := c.replies.tail
        softReset := if c.softReset = .replyOwed ∧ c.replies.length ≤ 1 then .due else c.softReset } := by
  have hlast : c.replies.tail = [] ↔ c.replies.length ≤ 1 := by
    rw [← List.length_eq_zero_iff, List.length_tail, Nat.sub_eq_zero_iff_le]
  simp only [ControlPort.settleReset, hlast]
  split <;> rfl

end Sys2Proof.Machine

open Sys2Proof Sys2Proof.Machine

/-- Settles O55: what a frame waits for, the choice of the frame in its order, and what each kind of frame sent leaves. -/
theorem transmitterChoosesInOrder : Obligations.TransmitterChoosesInOrder := by
  refine fun ready s => ⟨fun h => congrArg Host.Outcome.next (transmitStart_of_not_mayStart h), fun hidle hreset => ?_,
    fun x hx => ⟨fun hother => congrArg Host.Outcome.next (transmitDone_of_other hx hother), fun hreply => ?_⟩,
    fun hidle => congrArg Host.Outcome.next (transmitDone_of_idle hidle)⟩
  · have hstart := transmitStart_of_mayStart hidle hreset
    refine ⟨fun howed => ?_, fun howed => ⟨fun m rest hr => ?_, fun hr eligibleClass hclass => ?_⟩⟩
    · refine congrArg Host.Outcome.next (hstart.trans ((chooseFrame_of_owed howed).trans ?_))
      rw [sendStart, startFrame_frame]
      rfl
    · exact congrArg Host.Outcome.next (hstart.trans (chooseFrame_of_reply howed hr))
    · have heligible : ∀ c : ClassId, eligible c s.notices = true ↔ eligibleClass c := fun c =>
        (eligible_iff c s.notices).trans (hclass c).symm
      have hnot : ∀ c : ClassId, ¬eligibleClass c → eligible c s.notices = false := fun c h =>
        Bool.eq_false_iff.2 fun he => h ((heligible c).1 he)
      refine ⟨fun hnone => ?_, fun cls hcls hlow => ⟨makeReport cls s.notices, makeReport_spec cls s.notices, ?_⟩⟩
      · exact congrArg Host.Outcome.next (hstart.trans (chooseFrame_of_nothing howed hr fun c => hnot c (hnone c)))
      · have hchosen := chooseFrame_of_eligible howed hr ((heligible cls).2 hcls) fun c hc => hnot c (hlow c hc)
        exact congrArg Host.Outcome.next (hstart.trans (hchosen.trans (sendReport_eq cls s)))
  · refine congrArg Host.Outcome.next ((transmitDone_of_reply hx hreply).trans ?_)
    rw [settleReset_tail]
    rfl
end

section
/-! The receiver of the Control Port (R170 to R172, R174): a byte by what the buffer holds, a frame by the judgement of its bytes. -/

namespace Sys2Proof.Machine

open Sys2Proof

/-! ### A frame discarded, and time that passes -/

/-- The discarding of a frame is what the statements say of it. -/
theorem discardFrame_eq (code : Byte) (s : State) : discardFrame code s = frameDiscarded code s := rfl

/-- No time passes before a byte that comes at once. -/
theorem passTime_zero (s : State) : passTime 0 s = s := by
  simp only [passTime, BitVec.ofNat_eq_ofNat, BitVec.add_zero]

theorem byteTimeoutDue_iff (s : State) :
    byteTimeoutDue s = true
      ↔ s.control.openFrame ≠ [] ∧ 80000 ≤ (s.air.timeBase - s.control.lastByteTime).toNat := by
  rw [byteTimeoutDue, Bool.and_eq_true, Bool.not_eq_true', List.isEmpty_eq_false_iff, decide_eq_true_iff, ticksSince]

theorem byteTimeout_of_due {s : State} (hin : s.control.openFrame ≠ [])
    (hdue : 80000 ≤ (s.air.timeBase - s.control.lastByteTime).toNat) : byteTimeout s = frameDiscarded 3 s :=
  (if_pos ((byteTimeoutDue_iff s).2 ⟨hin, hdue⟩)).trans (discardFrame_eq 3 s)

theorem byteTimeout_of_not_due {s : State}
    (h : s.control.openFrame = [] ∨ (s.air.timeBase - s.control.lastByteTime).toNat < 80000) : byteTimeout s = s := by
  refine if_neg fun hdue => ?_
  obtain ⟨hin, hpassed⟩ := (byteTimeoutDue_iff s).1 hdue
  exact h.elim hin (Nat.not_lt.2 hpassed)

/-! ### A byte arrives (R170, R172) -/

/-- The state once a byte has been stored at the present time, whatever it completes. -/
def byteStored (b : Byte) (s : State) : State := s.setControl (s.control.store b s.air.timeBase)

section
variable {b : Byte} {s : State}

/-- A receiver that hunts drops every byte but Sync. -/
theorem receiveByte_of_hunting (h : s.control.openFrame = []) (hb : b ≠ syncByte) : receiveByte b s = s :=
  if_pos (by simp [h, hb])

/-- Inside a frame, and at a Sync byte, the receiver does not hunt. -/
theorem not_hunting (h : s.control.openFrame ≠ [] ∨ b = syncByte) :
    ¬(s.control.openFrame.isEmpty && b != syncByte) = true := by
  rw [Bool.and_eq_true, List.isEmpty_iff, bne_iff_ne]
  exact fun ⟨hempty, hb⟩ => h.elim (· hempty) hb

theorem receiveByte_of_full (h : s.control.openFrame ≠ [] ∨ b = syncByte) (hfull : 1024 ≤ bufferedBytes s.control) :
    receiveByte b s = frameDiscarded 4 s :=
  ((if_neg (not_hunting h)).trans (if_pos hfull)).trans (discardFrame_eq 4 s)

theorem receiveByte_of_room (h : s.control.openFrame ≠ [] ∨ b = syncByte) (hroom : bufferedBytes s.control < 1024) :
    receiveByte b s = settleFrame (byteStored b s) :=
  (if_neg (not_hunting h)).trans (if_neg (Nat.not_le.2 hroom))

end

/-! ### What follows a byte stored, by the judgement of the frame (R172) -/

section
variable {s : State}

theorem settleFrame_of_unfinished (h : judgeFrame s.control.openFrame = .unfinished) : settleFrame s = s := by
  simp only [settleFrame, h]

theorem settleFrame_of_badLength (h : judgeFrame s.control.openFrame = .badLength) : settleFrame s = frameDiscarded 2 s := by
  simp only [settleFrame, h, discardFrame_eq]

theorem settleFrame_of_badCheck (h : judgeFrame s.control.openFrame = .badCheck) : settleFrame s = frameDiscarded 1 s := by
  simp only [settleFrame, h, discardFrame_eq]

theorem settleFrame_of_good (h : judgeFrame s.control.openFrame = .good) :
    settleFrame s = s.setControl s.control.keepFrame.queueFrame := by
  simp only [settleFrame, h]

end

/-! ### The judgement of the bytes stored (R171, R172) -/

/-- Before the second Length byte nothing is judged. -/
theorem judgeFrame_of_short {stored : List Byte} (h : stored.length < 3) : judgeFrame stored = .unfinished := by
  match stored with
  | [] => rfl
  | [_] => rfl
  | [_, _] => rfl
  | _ :: _ :: _ :: _ => simp at h; omega

section
variable {sync low high : Byte} {rest : List Byte}

theorem judgeFrame_of_badLength (h : number2 low high < 2 ∨ 258 < number2 low high) :
    judgeFrame (sync :: low :: high :: rest) = .badLength := if_pos h

/-- A frame of a length in range is unfinished until its Check byte is there. -/
theorem judgeFrame_of_unfinished (hlow : 2 ≤ number2 low high) (hhigh : number2 low high ≤ 258)
    (h : rest.length < number2 low high + 1) : judgeFrame (sync :: low :: high :: rest) = .unfinished := by
  have hrange : ¬(number2 low high < 2 ∨ 258 < number2 low high) := by omega
  refine (if_neg hrange).trans (if_pos ?_)
  simp only [List.length_cons]
  omega

/-- A frame whose Check byte is there is good or bad by its sum. -/
theorem judgeFrame_of_whole (hlow : 2 ≤ number2 low high) (hhigh : number2 low high ≤ 258)
    (h : number2 low high + 1 ≤ rest.length) :
    judgeFrame (sync :: low :: high :: rest) = if byteSum (low :: high :: rest) = 0 then .good else .badCheck := by
  have hrange : ¬(number2 low high < 2 ∨ 258 < number2 low high) := by omega
  refine (if_neg hrange).trans (if_neg ?_)
  simp only [List.length_cons]
  omega

end

/-- The byte sum is the sum of the bytes' numbers modulo 256 (Table 11.1). -/
theorem byteSum_toNat (bytes : List Byte) : (byteSum bytes).toNat = (bytes.map BitVec.toNat).sum % 256 := by
  have hfrom : ∀ start : Byte, (bytes.foldl (· + ·) start).toNat = (start.toNat + (bytes.map BitVec.toNat).sum) % 256 := by
    induction bytes with
    | nil => intro start; exact (Nat.mod_eq_of_lt start.isLt).symm
    | cons b rest ih =>
      intro start
      rw [List.foldl_cons, ih, BitVec.toNat_add, List.map_cons, List.sum_cons]
      omega
  simpa [byteSum] using hfrom 0

theorem byteSum_eq_zero_iff (bytes : List Byte) : byteSum bytes = 0 ↔ (bytes.map BitVec.toNat).sum % 256 = 0 := by
  rw [← byteSum_toNat, BitVec.toNat_eq]
  rfl

/-! ### Good frames and requests (R174, R176) -/

theorem admits_iff (c : ControlPort) : c.admits = true ↔ c.requests.length < 4 ∧ c.softReset = .notAsked := by
  simp [ControlPort.admits]

section
variable {c : ControlPort}

theorem queueFrame_of_nil (h : c.goodFrames = []) : c.queueFrame = c := by
  simp only [ControlPort.queueFrame, h]

/-- The oldest good frame becomes a request where a place is free. -/
theorem queueFrame_of_admits {bytes : List Byte} {rest : List (List Byte)} (h : c.goodFrames = bytes :: rest)
    (ha : c.requests.length < 4 ∧ c.softReset = .notAsked) :
    c.queueFrame
      = settleReady { c with goodFrames := rest, requests := c.requests ++ (messageOfFrame bytes).toList } := by
  simp only [ControlPort.queueFrame, h, if_pos ((admits_iff c).2 ha)]

/-- With the request queue full, or after a RESET_SOFT, the good frames wait. -/
theorem queueFrame_of_not_admits (ha : ¬(c.requests.length < 4 ∧ c.softReset = .notAsked)) : c.queueFrame = c := by
  unfold ControlPort.queueFrame
  split
  · rfl
  · exact if_neg (mt (admits_iff c).1 ha)

/-- The making of a request leaves the frame being received and the fault count. -/
theorem queueFrame_keeps (c : ControlPort) :
    c.queueFrame.openFrame = c.openFrame ∧ c.queueFrame.faultCount = c.faultCount := by
  unfold ControlPort.queueFrame
  split
  · exact ⟨rfl, rfl⟩
  · split <;> exact ⟨rfl, rfl⟩

end

end Sys2Proof.Machine

open Sys2Proof Sys2Proof.Machine

/-- Settles O54: a byte by whether the receiver hunts and the buffer has room, a byte stored by the judgement of its frame, the timeout
by whether it is due. -/
theorem receiverFollowsFrames : Obligations.ReceiverFollowsFrames := by
  rintro elapsed b s partly rfl
  have hstep : ∀ t : State, receiveByte b (later elapsed s) = t → exec (.controlPortByte elapsed b) s = .next t :=
    fun _ h => congrArg Host.Outcome.next h
  refine ⟨fun hempty hb => ?_, fun hin hfull => ?_, fun hroom stored hstored => ?_, fun hin hdue => ?_, fun hnot => ?_⟩
  · exact hstep _ (receiveByte_of_hunting hempty hb)
  · exact hstep _ (receiveByte_of_full hin hfull)
  · have hbytes : stored.control.openFrame = s.control.openFrame ++ [b] := by rw [hstored]
    have hbyte : (s.control.openFrame ≠ [] ∨ b = 0xC3) → receiveByte b (later elapsed s) = settleFrame stored := fun hin => by
      rw [hstored]
      exact receiveByte_of_room hin hroom
    refine ⟨fun hfew => ?_, fun sync low hpart hlength => ?_, fun sync low high rest hpart hlow hhigh => ?_⟩
    · have hin : s.control.openFrame ≠ [] ∨ b = 0xC3 :=
        hfew.symm.imp (fun hone => List.ne_nil_of_length_eq_add_one hone) And.right
      have hshort : stored.control.openFrame.length < 3 := by
        rw [hbytes, List.length_append, List.length_singleton]
        rcases hfew with ⟨hempty, -⟩ | hone
        · rw [hempty]; decide
        · omega
      exact hstep _ ((hbyte hin).trans (settleFrame_of_unfinished (judgeFrame_of_short hshort)))
    · have hin : s.control.openFrame ≠ [] ∨ b = 0xC3 := .inl (hpart ▸ List.cons_ne_nil _ _)
      rw [hpart] at hbytes
      exact hstep _ ((hbyte hin).trans (settleFrame_of_badLength (hbytes ▸ judgeFrame_of_badLength hlength)))
    · have hin : s.control.openFrame ≠ [] ∨ b = 0xC3 := .inl fun hempty => by simp [hempty] at hpart
      rw [hpart] at hbytes
      refine ⟨fun hmore => ?_, fun hwhole hsum => ?_, fun hwhole hsum => ?_⟩
      · exact hstep _ ((hbyte hin).trans (settleFrame_of_unfinished (hbytes ▸ judgeFrame_of_unfinished hlow hhigh hmore)))
      · have hbad : judgeFrame stored.control.openFrame = .badCheck := by
          rw [hbytes, judgeFrame_of_whole hlow hhigh hwhole, if_neg (mt (byteSum_eq_zero_iff _).1 hsum)]
        exact hstep _ ((hbyte hin).trans (settleFrame_of_badCheck hbad))
      · have hgood : judgeFrame stored.control.openFrame = .good := by
          rw [hbytes, judgeFrame_of_whole hlow hhigh hwhole, if_pos ((byteSum_eq_zero_iff _).2 hsum)]
        obtain ⟨hopen, hfaults⟩ := queueFrame_keeps stored.control.keepFrame
        refine ⟨_, hstep _ ((hbyte hin).trans (settleFrame_of_good hgood)), ?_, hopen, hfaults.trans ?_⟩
        · rw [hstored]; rfl
        · rw [hstored]; rfl
  · exact congrArg Host.Outcome.next (byteTimeout_of_due (s := later elapsed s) hin hdue)
  · exact congrArg Host.Outcome.next (byteTimeout_of_not_due (s := later elapsed s) hnot)
end

section
/-! The bytes of a message's frame, one after another, and the request they become (R171, R172, R174). -/

namespace Sys2Proof.Machine

open Sys2Proof

/-! ### The frame of a message (Table 11.1) -/

/-- A frame byte by byte: its Length is two more than the body, and its Check follows the body. -/
theorem frame_eq (m : Message) :
    m.frame = syncByte :: BitVec.ofNat 8 (m.body.length + 2) :: BitVec.ofNat 8 ((m.body.length + 2) / 256)
      :: (m.kind :: m.tag :: (m.body ++ [-(byteSum m.covered)])) := rfl

theorem frame_length (m : Message) : m.frame.length = m.body.length + 6 := by
  simp [frame_eq]

/-- The Check byte makes the byte sum 0. -/
theorem byteSum_check (bytes : List Byte) : byteSum (bytes ++ [-(byteSum bytes)]) = 0 := by
  rw [byteSum, List.foldl_append, List.foldl_cons, List.foldl_nil, ← byteSum]
  exact BitVec.add_right_neg _

/-- The message of a frame is the message it was made of. -/
theorem messageOfFrame_frame (m : Message) : messageOfFrame m.frame = some m := by
  rw [frame_eq, messageOfFrame, List.dropLast_concat]

/-- The frame of a message is good. -/
theorem judgeFrame_frame {m : Message} (h : m.body.length ≤ 256) : judgeFrame m.frame = .good := by
  have hnumber := number2_of_lt (g := m.body.length + 2) (by omega)
  rw [frame_eq, judgeFrame_of_whole (by omega) (by omega) (by simp [hnumber])]
  exact if_pos (byteSum_check m.covered)

/-- Until its last byte the frame of a message is unfinished. -/
theorem judgeFrame_of_incomplete {m : Message} (h : m.body.length ≤ 256) {stored rest : List Byte} (hrest : rest ≠ [])
    (hframe : stored ++ rest = m.frame) : judgeFrame stored = .unfinished := by
  match stored with
  | [] => exact judgeFrame_of_short (by simp)
  | [_] => exact judgeFrame_of_short (by simp)
  | [_, _] => exact judgeFrame_of_short (by simp)
  | sync :: low :: high :: more =>
    have hnumber := number2_of_lt (g := m.body.length + 2) (by omega)
    have hlength := congrArg List.length hframe
    have hleft := List.length_pos_of_ne_nil hrest
    simp only [frame_length, List.cons_append, List.length_cons, List.length_append] at hlength
    rw [frame_eq] at hframe
    simp only [List.cons_append, List.cons.injEq] at hframe
    obtain ⟨-, rfl, rfl, -⟩ := hframe
    exact judgeFrame_of_unfinished (by omega) (by omega) (by omega)

/-! ### The bytes one after another (R172) -/

/-- The state while the buffer holds nothing but the bytes of one frame, the last of them stored now. -/
def partlyReceived (stored : List Byte) (s : State) : State :=
  s.setControl { s.control with openFrame := stored, lastByteTime := s.air.timeBase, ready := true }

/-- A byte of a frame stored in an otherwise empty buffer leaves CRDY active (R170). -/
theorem byteStored_eq {s : State} (b : Byte) (hgood : s.control.goodFrames = [])
    (hready : s.control.openFrame = [] ∨ s.control.ready = true) (hroom : s.control.openFrame.length < 767) :
    byteStored b s = partlyReceived (s.control.openFrame ++ [b]) s := by
  have hheld : heldBytes s.control.goodFrames (s.control.openFrame ++ [b]) = s.control.openFrame.length + 1 := by
    simp [heldBytes, hgood]
  have hactive : readyAt (heldBytes s.control.goodFrames (s.control.openFrame ++ [b])) s.control.ready = true := by
    rw [hheld, readyAt, if_neg (by omega)]
    rcases hready with hempty | hready
    · rw [hempty]; rfl
    · rw [hready, ite_self]
  rw [byteStored, ControlPort.store, settleReady_spec, hactive]
  rfl

/-- A byte of a message's frame, the bytes before it stored: it is stored, and judged with them. -/
theorem exec_byte_of_frame {m : Message} {s : State} {b : Byte} {rest : List Byte} (h : m.body.length ≤ 256)
    (hgood : s.control.goodFrames = []) (hready : s.control.openFrame = [] ∨ s.control.ready = true)
    (hframe : s.control.openFrame ++ b :: rest = m.frame) :
    exec (.controlPortByte 0 b) s = .next (settleFrame (partlyReceived (s.control.openFrame ++ [b]) s)) := by
  have hlength := congrArg List.length hframe
  rw [frame_length, List.length_append, List.length_cons] at hlength
  have hin : s.control.openFrame ≠ [] ∨ b = syncByte := by
    refine Classical.or_iff_not_imp_left.2 fun hempty => ?_
    rw [not_not.1 hempty, List.nil_append, frame_eq] at hframe
    exact (List.cons.inj hframe).1
  have hheld : bufferedBytes s.control < 1024 := by
    simp only [bufferedBytes, hgood, List.map_nil, List.sum_nil]
    omega
  have hreceived := receiveByte_of_room hin hheld
  rw [byteStored_eq b hgood hready (by omega)] at hreceived
  refine congrArg Host.Outcome.next ?_
  rw [passTime_zero, hreceived]

/-- The bytes of a message's frame still to come, the bytes before them stored, complete the frame. -/
theorem receives_rest_of_frame {m : Message} (h : m.body.length ≤ 256) {rest : List Byte} (hrest : rest ≠ []) {s : State}
    (hgood : s.control.goodFrames = []) (hready : s.control.openFrame = [] ∨ s.control.ready = true)
    (hframe : s.control.openFrame ++ rest = m.frame) : receives rest s (settleFrame (partlyReceived m.frame s)) := by
  induction rest generalizing s with
  | nil => exact absurd rfl hrest
  | cons b rest ih =>
    have hexec := exec_byte_of_frame h hgood hready hframe
    have happend : (s.control.openFrame ++ [b]) ++ rest = m.frame := by
      rw [List.append_assoc, List.singleton_append, hframe]
    by_cases hlast : rest = []
    · subst hlast
      rw [List.append_nil] at happend
      rw [happend] at hexec
      exact ⟨_, hexec, rfl⟩
    · have hmid := settleFrame_of_unfinished (s := partlyReceived (s.control.openFrame ++ [b]) s)
        (judgeFrame_of_incomplete h hlast happend)
      rw [hmid] at hexec
      exact ⟨_, hexec, ih hlast hgood (.inr rfl) happend⟩

/-- The Control Port with the frame of a message kept, received into an empty buffer. -/
def frameWaiting (m : Message) (s : State) : ControlPort :=
  { s.control with goodFrames := [m.frame], lastByteTime := s.air.timeBase, ready := true }

/-- The frame of a message, stored whole in an otherwise empty buffer, is kept, and becomes a request if it may. -/
theorem settleFrame_of_frame {m : Message} (h : m.body.length ≤ 256) {s : State} (hopen : s.control.openFrame = [])
    (hgood : s.control.goodFrames = []) :
    settleFrame (partlyReceived m.frame s) = s.setControl (frameWaiting m s).queueFrame := by
  have hkept : (partlyReceived m.frame s).control.keepFrame = frameWaiting m s := by
    simp only [ControlPort.keepFrame, partlyReceived, frameWaiting, State.setControl_control, hgood, hopen, List.nil_append]
  rw [settleFrame_of_good (judgeFrame_frame h), hkept]
  rfl

/-- The oldest frame waiting becomes its message where a place is free (R174). -/
theorem queueFrame_of_frame {c : ControlPort} {m : Message} {rest : List (List Byte)} (h : c.goodFrames = m.frame :: rest)
    (ha : c.requests.length < 4 ∧ c.softReset = .notAsked) :
    c.queueFrame
      = { c with
        goodFrames := rest, requests := c.requests ++ [m], ready := readyAt (heldBytes rest c.openFrame) c.ready } := by
  rw [queueFrame_of_admits h ha, messageOfFrame_frame, settleReady_spec]
  rfl

end Sys2Proof.Machine

open Sys2Proof Sys2Proof.Machine

/-- Settles O53: the bytes by induction over the frame, which is unfinished before its last byte and good with it; then, and in
FRAME_TO_REQUEST, by whether a place is free. -/
theorem framesBecomeRequests : Obligations.FramesBecomeRequests := by
  refine fun m s h => ⟨fun hopen hgood => ?_, fun rest hframes => ⟨fun hroom hreset => ?_, fun hwait => ?_⟩, fun hnone => ?_⟩
  · have hreceived : receives m.frame s (s.setControl (frameWaiting m s).queueFrame) := by
      rw [← settleFrame_of_frame h hopen hgood]
      exact receives_rest_of_frame h (List.cons_ne_nil _ _) hgood (.inl hopen)
        ((congrArg (· ++ m.frame) hopen).trans (List.nil_append _))
    refine ⟨fun ha => ?_, fun hwait => ?_⟩
    · have hemptied : readyAt (heldBytes s.control.goodFrames s.control.openFrame) true = true := by rw [hgood, hopen]; rfl
      have hframes : (frameWaiting m s).goodFrames = m.frame :: s.control.goodFrames := by rw [hgood]; rfl
      rw [queueFrame_of_frame hframes ha] at hreceived
      simpa only [frameWaiting, State.setControl, hemptied] using hreceived
    · rw [queueFrame_of_not_admits (c := frameWaiting m s) hwait] at hreceived
      exact hreceived
  · exact congrArg (fun c => Host.Outcome.next (s.setControl c)) (queueFrame_of_frame hframes ⟨hroom, hreset⟩)
  · exact congrArg (fun c => Host.Outcome.next (s.setControl c)) (queueFrame_of_not_admits hwait)
  · exact congrArg (fun c => Host.Outcome.next (s.setControl c)) (queueFrame_of_nil hnone)
end

section
/-! The requests, all of them at once: what a command with a request does, and what every answer keeps (R171, R173, R174, R176). -/

namespace Sys2Proof.Machine

open Sys2Proof

/-! ### What an answer to a request is (R173) -/

/-- What a block makes of a request: a body of the wrong size is refused with BAD_LENGTH; one that fits is refused, the state
standing, or answered with a status of OK or OK_CLAMPED. -/
inductive Answer.Decided (fits : Bool) (s : State) : Answer → Prop
  | wrongSize : Decided fits s (refuse .badLength s)
  | refused (h : fits = true) (st : Status) : Decided fits s (refuse st s)
  | ok (h : fits = true) (fields : List Byte) (t : State) : Decided fits s (answerOk fields t)
  | clamped (h : fits = true) (clamped : Bool) (fields : List Byte) (t : State) : Decided fits s (answerClamped clamped fields t)

namespace Answer.Decided

variable {fits : Bool} {s : State} {a : Answer}

theorem eq_badLength (h : Decided false s a) : a = refuse .badLength s := by
  cases h with
  | wrongSize => rfl
  | refused hfits | ok hfits | clamped hfits => cases hfits

/-- An answer has a status at least. -/
theorem body_ne_nil (h : Decided fits s a) : a.body ≠ [] := by
  cases h with
  | wrongSize | refused | ok => exact List.cons_ne_nil _ _
  | clamped _ c => rw [answerClamped_body]; exact List.cons_ne_nil _ _

/-- A status numbered 2 or more is that of a refusal: it stands alone, and the state stands. -/
theorem refused_of_status (h : Decided fits s a) {status : Byte} {rest : List Byte} (hbody : a.body = status :: rest)
    (hstatus : 2 ≤ status.toNat) : rest = [] ∧ a.state = s := by
  cases h with
  | wrongSize | refused =>
    obtain ⟨-, hrest⟩ := List.cons.inj hbody
    exact ⟨hrest.symm, rfl⟩
  | ok =>
    obtain ⟨rfl, -⟩ := List.cons.inj hbody
    exact absurd hstatus (by decide)
  | clamped _ c =>
    rw [answerClamped_body] at hbody
    obtain ⟨rfl, -⟩ := List.cons.inj hbody
    cases c <;> exact absurd hstatus (by decide)

end Answer.Decided

/-! ### The answers of the blocks -/

section
variable (body : List Byte) (s : State)

theorem decided_hello : (hello body s).Decided (body.length == 0) s := by
  unfold hello
  split
  · exact .ok rfl _ _
  · exact .wrongSize

theorem decided_resetSoft : (resetSoft body s).Decided (body.length == 0) s := by
  unfold resetSoft
  split
  · exact .ok rfl _ _
  · exact .wrongSize

theorem decided_callOpen : (callOpen body s).Decided (body.length == 4) s := by
  unfold callOpen
  split
  · split
    · split
      · exact .ok rfl _ _
      · exact .refused rfl _
    · exact .refused rfl _
  · exact .wrongSize

theorem decided_callHold : (callHold body s).Decided (body.length == 0) s := by
  unfold callHold
  split
  · cases s.call.state with
    | live | held | lost => exact .ok rfl _ _
    | idle | opening | closing => exact .refused rfl _
  · exact .wrongSize

theorem decided_callResume : (callResume body s).Decided (body.length == 0) s := by
  unfold callResume
  split
  · cases s.call.state with
    | live | held | lost => exact .ok rfl _ _
    | idle | opening | closing => exact .refused rfl _
  · exact .wrongSize

theorem decided_callClose : (callClose body s).Decided (body.length == 0) s := by
  unfold callClose
  split
  · cases s.call.state with
    | idle => exact .refused rfl _
    | opening | live | held | lost | closing => exact .ok rfl _ _
  · exact .wrongSize

theorem decided_callGet : (callGet body s).Decided (body.length == 0) s := by
  unfold callGet
  split
  · exact .ok rfl _ _
  · exact .wrongSize

theorem decided_rosterPut : (rosterPut body s).Decided (body.length == 29) s := by
  unfold rosterPut
  split
  · next hsize =>
    have hfits : (body.length == 29) = true := beq_iff_eq.2 hsize
    split
    · exact .refused hfits _
    · split
      · split
        · exact .refused hfits _
        · split
          · exact .refused hfits _
          · split
            · exact .refused hfits _
            · exact .ok hfits _ _
      · exact .refused hfits _
  · exact .wrongSize

theorem decided_rosterGet : (rosterGet body s).Decided (body.length == 1) s := by
  unfold rosterGet
  split
  · split
    · exact .ok rfl _ _
    · exact .refused rfl _
  · exact .wrongSize

theorem decided_rosterDrop : (rosterDrop body s).Decided (body.length == 1) s := by
  unfold rosterDrop
  split
  · split
    · next i _ =>
      cases s.roster[i] with
      | free | reserved | inCall => exact .refused rfl _
      | bonded => exact .ok rfl _ _
    · exact .refused rfl _
  · exact .wrongSize

theorem decided_pairStart : (pairStart body s).Decided (body.length == 1) s := by
  unfold pairStart
  split
  · split
    · split
      · exact .clamped rfl _ _ _
      · exact .refused rfl _
    · exact .refused rfl _
  · exact .wrongSize

theorem decided_pairPick : (pairPick body s).Decided (body.length == 1) s := by
  unfold pairPick
  split
  · split
    · split
      · exact .refused rfl _
      · split
        · exact .refused rfl _
        · split
          · exact .refused rfl _
          · split
            · exact .refused rfl _
            · exact .ok rfl _ _
    · exact .refused rfl _
  · exact .wrongSize

theorem decided_pairConfirm : (pairConfirm body s).Decided (body.length == 1) s := by
  unfold pairConfirm
  split
  · split
    · split
      · exact .ok rfl _ _
      · exact .ok rfl _ _
      · exact .refused rfl _
    · exact .refused rfl _
  · exact .wrongSize

theorem decided_pairCancel : (pairCancel body s).Decided (body.length == 0) s := by
  unfold pairCancel
  split
  · split
    · exact .refused rfl _
    · exact .ok rfl _ _
  · exact .wrongSize

theorem decided_earJoin : (earJoin body s).Decided (body.length == 1) s := by
  unfold earJoin
  split
  · split
    · split
      · exact .refused rfl _
      · next i _ =>
        cases s.roster[i] with
        | free | reserved | inCall => exact .refused rfl _
        | bonded =>
          dsimp only
          split
          · split
            · exact .ok rfl _ _
            · exact .refused rfl _
          · exact .refused rfl _
    · exact .refused rfl _
  · exact .wrongSize

theorem decided_earLeave : (earLeave body s).Decided (body.length == 1) s := by
  unfold earLeave
  split
  · split
    · exact .refused rfl _
    · next k _ =>
      cases s.slots[k].state with
      | free => exact .refused rfl _
      | joining | streaming | leaving => exact .ok rfl _ _
  · exact .wrongSize

theorem decided_queueSet : (queueSet body s).Decided (body.length == 3) s := by
  unfold queueSet
  split
  · dsimp only
    split
    · exact .clamped rfl _ _ _
    · split
      · exact .clamped rfl _ _ _
      · exact .refused rfl _
  · exact .wrongSize

theorem decided_mixSet :
    (mixSet body s).Decided (body.length % 4 == 0 && 4 ≤ body.length && body.length ≤ 96) s := by
  unfold mixSet
  split
  · next hsize =>
    have hfits : (body.length % 4 == 0 && 4 ≤ body.length && body.length ≤ 96) = true := by
      simpa only [Bool.and_eq_true, beq_iff_eq, decide_eq_true_eq, and_assoc] using hsize
    split
    · exact .clamped hfits _ _ _
    · exact .refused hfits _
  · exact .wrongSize

theorem decided_mixCommit : (mixCommit body s).Decided (body.length == 0) s := by
  unfold mixCommit
  split
  · split
    · exact .ok rfl _ _
    · exact .ok rfl _ _
  · exact .wrongSize

theorem decided_mixGet : (mixGet body s).Decided (body.length == 1) s := by
  unfold mixGet
  split
  · split
    · exact .ok rfl _ _
    · exact .ok rfl _ _
    · exact .refused rfl _
  · exact .wrongSize

theorem decided_voiceSet : (voiceSet body s).Decided (body.length == 4) s := by
  unfold voiceSet
  split
  · split
    · exact .clamped rfl _ _ _
    · exact .refused rfl _
  · exact .wrongSize

theorem decided_watchSet : (watchSet body s).Decided (body.length == 5) s := by
  unfold watchSet
  split
  · split
    · exact .clamped rfl _ _ _
    · exact .refused rfl _
  · exact .wrongSize

theorem decided_sinkSet : (sinkSet body s).Decided (body.length == 2) s := by
  unfold sinkSet
  split
  · split
    · exact .ok rfl _ _
    · exact .refused rfl _
  · exact .wrongSize

theorem decided_statsGet : (statsGet body s).Decided (body.length == 1) s := by
  unfold statsGet
  split
  · split
    · exact .ok rfl _ _
    · exact .refused rfl _
  · exact .wrongSize

theorem decided_noticeRoute : (noticeRoute body s).Decided (body.length == 2) s := by
  unfold noticeRoute
  split
  · split
    · split
      · exact .refused rfl _
      · exact .ok rfl _ _
    · exact .refused rfl _
  · exact .wrongSize

theorem decided_noticeMask : (noticeMask body s).Decided (body.length == 3) s := by
  unfold noticeMask
  split
  · split
    · exact .ok rfl _ _
    · exact .refused rfl _
  · exact .wrongSize

theorem decided_noticeAck : (noticeAck body s).Decided (body.length == 1) s := by
  unfold noticeAck
  split
  · split
    · split
      · exact .ok rfl _ _
      · exact .refused rfl _
    · exact .refused rfl _
  · exact .wrongSize

theorem decided_noticePoll : (noticePoll body s).Decided (body.length == 1) s := by
  unfold noticePoll
  split
  · split
    · split
      · split
        · exact .ok rfl _ _
        · exact .ok rfl _ _
      · exact .refused rfl _
    · exact .refused rfl _
  · exact .wrongSize

end

/-! ### The commands that take a request (R171, R173, R174) -/

/-- Whether a body has a size that its request's kind takes; an unknown kind takes every size. -/
def sizeTaken (m : Message) : Bool := !isRequestKind m.kind || bodySizeFits m

/-- A command takes the request `m` as `answer` says, whose decision the size of the body enters, and which moves no queue of the
Control Port. -/
structure AnswersRequest (c : Instr) (m : Message) (answer : State → Answer) : Prop where
  taken : ∀ s : State, exec c s = .next (takeWith (replyKind m.kind) m answer s)
  decided : ∀ s : State, (answer s).Decided (sizeTaken m) s
  kept : ∀ s : State, NoticesKept s (answer s).state

/-- Every command with a request takes it, but for UNKNOWN_KIND_REQUEST with a kind that is a request kind: that command is not well
formed, and has no effect. -/
theorem exec_of_request {c : Instr} {m : Message} (h : messageOfInstr c = some m) :
    (∃ answer : State → Answer, AnswersRequest c m answer) ∨ (wellFormed c = false ∧ ∀ s : State, exec c s = .next s) := by
  cases c with
  | unknownKindRequest kind tag body =>
    cases h
    by_cases hk : isRequestKind kind = true
    · exact .inr ⟨by simp only [wellFormed, hk, Bool.not_true, Bool.false_and],
        fun s => congrArg Host.Outcome.next (if_pos hk)⟩
    · refine .inl ⟨refuse .unknownKind, fun s => congrArg Host.Outcome.next ?_, fun s => .refused ?_ _, NoticesKept.refl⟩
      · rw [if_neg hk, replyKind, if_neg hk]
      · rw [sizeTaken, Bool.eq_false_iff.2 hk]; rfl
  | hello tag body => cases h; exact .inl ⟨_, fun _ => rfl, decided_hello body, notices_hello body⟩
  | resetSoft tag body => cases h; exact .inl ⟨_, fun _ => rfl, decided_resetSoft body, notices_resetSoft body⟩
  | callOpen tag body => cases h; exact .inl ⟨_, fun _ => rfl, decided_callOpen body, notices_callOpen body⟩
  | callHold tag body => cases h; exact .inl ⟨_, fun _ => rfl, decided_callHold body, notices_callHold body⟩
  | callResume tag body => cases h; exact .inl ⟨_, fun _ => rfl, decided_callResume body, notices_callResume body⟩
  | callClose tag body => cases h; exact .inl ⟨_, fun _ => rfl, decided_callClose body, notices_callClose body⟩
  | callGet tag body => cases h; exact .inl ⟨_, fun _ => rfl, decided_callGet body, notices_callGet body⟩
  | rosterPut tag body => cases h; exact .inl ⟨_, fun _ => rfl, decided_rosterPut body, notices_rosterPut body⟩
  | rosterGet tag body => cases h; exact .inl ⟨_, fun _ => rfl, decided_rosterGet body, notices_rosterGet body⟩
  | rosterDrop tag body => cases h; exact .inl ⟨_, fun _ => rfl, decided_rosterDrop body, notices_rosterDrop body⟩
  | pairStart tag body => cases h; exact .inl ⟨_, fun _ => rfl, decided_pairStart body, notices_pairStart body⟩
  | pairPick tag body => cases h; exact .inl ⟨_, fun _ => rfl, decided_pairPick body, notices_pairPick body⟩
  | pairConfirm tag body => cases h; exact .inl ⟨_, fun _ => rfl, decided_pairConfirm body, notices_pairConfirm body⟩
  | pairCancel tag body => cases h; exact .inl ⟨_, fun _ => rfl, decided_pairCancel body, notices_pairCancel body⟩
  | earJoin tag body => cases h; exact .inl ⟨_, fun _ => rfl, decided_earJoin body, notices_earJoin body⟩
  | earLeave tag body => cases h; exact .inl ⟨_, fun _ => rfl, decided_earLeave body, notices_earLeave body⟩
  | queueSet tag body => cases h; exact .inl ⟨_, fun _ => rfl, decided_queueSet body, notices_queueSet body⟩
  | mixSet tag body => cases h; exact .inl ⟨_, fun _ => rfl, decided_mixSet body, notices_mixSet body⟩
  | mixCommit tag body => cases h; exact .inl ⟨_, fun _ => rfl, decided_mixCommit body, notices_mixCommit body⟩
  | mixGet tag body => cases h; exact .inl ⟨_, fun _ => rfl, decided_mixGet body, notices_mixGet body⟩
  | voiceSet tag body => cases h; exact .inl ⟨_, fun _ => rfl, decided_voiceSet body, notices_voiceSet body⟩
  | watchSet tag body => cases h; exact .inl ⟨_, fun _ => rfl, decided_watchSet body, notices_watchSet body⟩
  | sinkSet tag body => cases h; exact .inl ⟨_, fun _ => rfl, decided_sinkSet body, notices_sinkSet body⟩
  | statsGet tag body => cases h; exact .inl ⟨_, fun _ => rfl, decided_statsGet body, notices_statsGet body⟩
  | noticeRoute tag body => cases h; exact .inl ⟨_, fun _ => rfl, decided_noticeRoute body, notices_noticeRoute body⟩
  | noticeMask tag body => cases h; exact .inl ⟨_, fun _ => rfl, decided_noticeMask body, notices_noticeMask body⟩
  | noticeAck tag body => cases h; exact .inl ⟨_, fun _ => rfl, decided_noticeAck body, notices_noticeAck body⟩
  | noticePoll tag body => cases h; exact .inl ⟨_, fun _ => rfl, decided_noticePoll body, notices_noticePoll body⟩
  | _ => cases h

/-! ### What the taking of a request does (R173, R174) -/

section
variable {c : Instr} {m : Message} {answer : State → Answer} {s : State}

/-- A request that can be taken leaves the request queue, and its reply enters the reply queue; the rest is the answer's doing. -/
theorem AnswersRequest.exec_of_takeable (h : AnswersRequest c m answer) (ht : takeable m s) :
    exec c s = .next
      (appendReply ⟨replyKind m.kind, m.tag, (answer (dropRequest s)).body⟩ (answer (dropRequest s)).state) := by
  rw [h.taken, takeWith_of_takeable ht]

/-- The queues of the Control Port stand while an answer is made: the request has left, and the reply has yet to enter. -/
theorem AnswersRequest.queues_of_answer (h : AnswersRequest c m answer) (s : State) :
    (answer (dropRequest s)).state.control.requests = s.control.requests.tail
      ∧ (answer (dropRequest s)).state.control.replies = s.control.replies := by
  rw [(h.kept (dropRequest s)).port]
  exact ⟨rfl, rfl⟩

/-- A request answered by a status alone, the state standing, changes the two queues and nothing else. -/
theorem AnswersRequest.exec_of_refused (h : AnswersRequest c m answer) (ht : takeable m s) {body : List Byte}
    (ha : answer (dropRequest s) = ⟨dropRequest s, body⟩) :
    exec c s = .next (replied (replyKind m.kind) m.tag body s) := by
  rw [h.exec_of_takeable ht, ha]
  rfl

end

/-! ### Commands and messages (R171, R173) -/

/-- A message is spelt by its kind, its tag and its body. -/
theorem message_of_kind {m : Message} {kind : Byte} (h : m.kind.toNat = kind.toNat) : (⟨kind, m.tag, m.body⟩ : Message) = m := by
  rw [← BitVec.eq_of_toNat_eq h]

/-- The command that takes a message takes that message as its request. -/
theorem messageOfInstr_instrOfMessage (m : Message) : messageOfInstr (instrOfMessage m) = some m := by
  unfold instrOfMessage
  split
  -- the last branch is that of the unknown kinds
  case h_29 => rfl
  all_goals next hkind => exact congrArg some (message_of_kind hkind)

/-- The command of a message whose body fits a frame is well formed. -/
theorem wellFormed_instrOfMessage {m : Message} (h : m.body.length ≤ 256) : wellFormed (instrOfMessage m) = true := by
  have hfits : bodyFits m.body = true := decide_eq_true h
  unfold instrOfMessage
  split
  -- the last branch is that of the unknown kinds
  case h_29 =>
    have hunknown : isRequestKind m.kind = false := isRequestKind_eq_false (by simp only [imp_false] at *; bv_omega)
    simp only [wellFormed, hunknown, hfits, Bool.not_false, Bool.and_self]
  all_goals exact hfits

end Sys2Proof.Machine

namespace Sys2Proof.Laws

open Sys2Proof Sys2Proof.Machine

/-- Every command makes the round trip through its request. -/
theorem requestRoundTrip (c : Instr) : RequestRoundTrip.Statement c := by
  cases c with
  | unknownKindRequest kind tag body => exact RequestRoundTrip.unknownKindRequest kind tag body
  | hello | resetSoft | callOpen | callHold | callResume | callClose | callGet | rosterPut | rosterGet | rosterDrop | pairStart
  | pairPick | pairConfirm | pairCancel | earJoin | earLeave | queueSet | mixSet | mixCommit | mixGet | voiceSet | watchSet
  | sinkSet | statsGet | noticeRoute | noticeMask | noticeAck | noticePoll => exact RequestRoundTrip_of_kind rfl rfl rfl
  | _ => exact RequestRoundTrip_of_none rfl

end Sys2Proof.Laws

open Sys2Proof Sys2Proof.Machine

/-- Settles O4: with a body of the wrong size every answer is the refusal BAD_LENGTH. -/
theorem wrongBodySizeIsRefused : Obligations.WrongBodySizeIsRefused := by
  intro c m s hwell hm hkind ht hsize
  rcases exec_of_request hm with ⟨answer, hanswers⟩ | ⟨hill, -⟩
  · have hdecided := hanswers.decided (dropRequest s)
    rw [sizeTaken, hkind, hsize] at hdecided
    have hexec := hanswers.exec_of_refused ht hdecided.eq_badLength
    rw [replyKind, if_pos hkind] at hexec
    exact hexec
  · cases hill.symm.trans hwell

/-- Settles O5, by whether the request can be taken: an answer has a status at least, and leaves the queues to the taking. -/
theorem takenRequestIsAnsweredOnce : Obligations.TakenRequestIsAnsweredOnce := by
  intro c m s hm
  rcases exec_of_request hm with ⟨answer, hanswers⟩ | ⟨hill, hnothing⟩
  · refine ⟨fun _ ht => ?_, fun ht => (hanswers.taken s).trans (congrArg _ (takeWith_of_not_takeable ht))⟩
    obtain ⟨hrequests, hreplies⟩ := hanswers.queues_of_answer s
    exact ⟨_, _, hanswers.exec_of_takeable ht, (hanswers.decided _).body_ne_nil, hrequests, congrArg (· ++ _) hreplies⟩
  · exact ⟨fun hwell => absurd (hill.symm.trans hwell) nofun, fun _ => hnothing s⟩

/-- Settles O6: a reply of a status numbered 2 or more is that of an answer that refuses, and such an answer leaves the state. -/
theorem refusedRequestChangesNothing : Obligations.RefusedRequestChangesNothing := by
  intro c m s t status rest hm ht hexec hstatus hreply
  rcases exec_of_request hm with ⟨answer, hanswers⟩ | ⟨-, hnothing⟩
  · cases (hanswers.exec_of_takeable ht).symm.trans hexec
    obtain ⟨-, hreplies⟩ := hanswers.queues_of_answer s
    have hbody : (answer (dropRequest s)).body = status :: rest := by
      have happended : (answer (dropRequest s)).state.control.replies ++ [_] = _ := hreply
      rw [hreplies] at happended
      obtain ⟨heq, -⟩ := List.cons.inj (List.append_cancel_left happended)
      exact congrArg Message.body heq
    obtain ⟨rfl, hstate⟩ := (hanswers.decided _).refused_of_status hbody hstatus
    exact ⟨rfl, by rw [hbody, hstate]; rfl⟩
  · cases (hnothing s).symm.trans hexec
    simp at hreply

/-- Settles O7: each message by its kind, and a well-formed command by its round trip. -/
theorem requestsAndMessagesAgree : Obligations.RequestsAndMessagesAgree := fun m hbody =>
  ⟨messageOfInstr_instrOfMessage m, wellFormed_instrOfMessage hbody,
    fun c hwell hm => ((Laws.requestRoundTrip c hwell m hm).1).symm⟩
end
